-- ==== Sys2Proof/Word.lean ====
section
/-! DEFINITION. The two word types of the core (00_scope.md R9, R11): a bus byte and a 16-bit register or address.
Arithmetic on both wraps, as R11 says `+` and `-` do. -/

namespace Sys2Proof

/-- An 8-bit register or one bus byte (R9). -/
abbrev Byte := BitVec 8

/-- A 16-bit register or a bus address (R9). -/
abbrev Word := BitVec 16

end Sys2Proof
end

