-- ==== Sys2Proof/Machine/Bits.lean ====
section
/-! DEFINITION. Bytes of a word, sign extension and the bit fields of an opcode byte (00_scope.md R10, R12;
30_encoding.md R101, R102). -/

namespace Sys2Proof

/-- `hi8(v) = v[15:8]` (R12). -/
def hi8 (v : Word) : Byte := v.extractLsb' 8 8

/-- `lo8(v) = v[7:0]` (R12). -/
def lo8 (v : Word) : Byte := v.extractLsb' 0 8

/-- `cat16(hi, lo) = hi * 256 + lo` (R12). -/
def cat16 (hi lo : Byte) : Word := hi ++ lo

/-- `sext_16(b)`: two's complement sign extension (R12). -/
def sext16 (b : Byte) : Word := b.signExtend 16

/-- `zext_16(b) = b` (R12). -/
def zext16 (b : Byte) : Word := b.setWidth 16

/-- `bool_to_bit`, as a byte to add or shift (R12). -/
def boolToByte (b : Bool) : Byte := if b then 1 else 0

/-- Bits 7..6 of an opcode or CB sub-opcode byte (R101, R102). -/
def fieldX (op : Byte) : BitVec 2 := op.extractLsb' 6 2

/-- Bits 5..3 (R101, R102). -/
def fieldY (op : Byte) : BitVec 3 := op.extractLsb' 3 3

/-- Bits 2..0 (R101, R102). -/
def fieldZ (op : Byte) : BitVec 3 := op.extractLsb' 0 3

/-- Bit 3, `y & 1` (R101). -/
def fieldQ (op : Byte) : Bool := op.getLsbD 3

end Sys2Proof
end

