-- ==== Sys2Proof/Config.lean ====
section
/-! DEFINITION. What the spec leaves to the implementation (00_scope.md R9): the parameters `BOOT_REGS` and `STOP_BYTES`,
and what a bus byte reads as when nothing has written it. -/

namespace Sys2Proof

/-- `STOP_BYTES`, 1 or 2: the PC advance of STOP (R9, 46_system.md R362). -/
inductive StopBytes where
  | one
  | two
deriving DecidableEq, Repr

/-- The implementation parameters a step reads. Plain data: a statement for every state holds for both values. -/
structure Params where
  /-- `STOP_BYTES` (R9). -/
  stopBytes : StopBytes
deriving DecidableEq, Repr

/-- The parameter `BOOT_REGS` (R9, 10_state.md R52). -/
structure BootRegs where
  af : Word
  bc : Word
  de : Word
  hl : Word
  sp : Word
  pc : Word
deriving DecidableEq, Repr

/-- The default of `BOOT_REGS`: the monochrome post-boot values of 10_state.md R52 (log entry 4). -/
def BootRegs.dmg : BootRegs :=
  { af := 0x01B0, bc := 0x0013, de := 0x00D8, hl := 0x014D, sp := 0xFFFE, pc := 0x0100 }

/-- The `STOP_BYTES` of `State.reset`: 2, "recommended" by 46_system.md R362. DESIGN CHOICE, unsafe, log entry 3. -/
def Params.recommended : Params := { stopBytes := .two }

/-- What a bus byte that nothing has written reads as. DESIGN CHOICE, unsafe, log entry 2: the spec leaves the contents
of the bus at construction OPEN (92_eei_decisions.md D10). -/
def unlistedByte : Byte := 0x00

end Sys2Proof
end

