-- ==== Sys2Proof/Machine/State.lean ====
section
/-! DEFINITION. The state of the core and of its bus parameter, as plain data, and the state after reset
(10_state.md; 60_exceptions.md R402, R404, R434; 70_reset_and_hazards.md R450). -/

namespace Sys2Proof.Machine

/-- The bytes of the bus that differ from `unlistedByte`: (address, byte) pairs, addresses strictly rising. -/
abbrev Memory := List Host.Cell

/-- Addresses strictly rise from `lo`, lie in the 16-bit space, and no listed byte is the unlisted one. -/
def Memory.canonicalFrom : Nat → Memory → Bool
  | _, [] => true
  | lo, (k, v) :: m => decide (lo ≤ k) && decide (k < 65536) && v != unlistedByte && Memory.canonicalFrom (k + 1) m

/-- The canonical form: equal memories are equal lists. -/
abbrev Memory.wf (m : Memory) : Prop := Memory.canonicalFrom 0 m = true

/-- One byte access of the core to the bus, with the byte that moved (00_scope.md R14, 20_memory.md R76). -/
inductive BusAccess where
  | read (addr : Word) (value : Byte)
  | write (addr : Word) (value : Byte)
deriving DecidableEq, Repr

/-- How the bus answers one access. "side effects ... are opaque to this core" and "refusal/masking policy belongs to the
bus, not this core" (20_memory.md R70, R78): either as a plain RAM does, or in its own way. Log entry 1. -/
inductive BusAnswer where
  /-- A read gives the byte last stored and changes nothing; a write stores its byte. -/
  | plainRam
  /-- A read gives `value`; a write's own byte is not stored; and whichever it was, the bus then stores `stores` (a
  side effect, a masked byte, nothing at all). -/
  | own (value : Byte) (stores : List (Word × Byte))
deriving DecidableEq, Repr

/-- The bus parameter's state, `BusState` (20_memory.md R70). `mem` is its bytes, with IE's view at 0xFFFF and IF's at
0xFF0F (60_exceptions.md R402). `answers` is how it answers the accesses still to come, one each; beyond the list it
answers as a plain RAM, so that the empty list is the plain-RAM instance (log entry 1). `trace` observes the accesses of
one step, oldest first; no step reads it (60_exceptions.md R436; log entry 9). -/
structure Bus where
  mem : Memory
  answers : List BusAnswer
  trace : List BusAccess
deriving DecidableEq, Repr

/-- A plain RAM with nothing written. -/
def Bus.freshRam : Bus := { mem := [], answers := [], trace := [] }

/-- The register file: "six 16-bit values (AF, BC, DE, HL, SP, PC)" (10_state.md R30). -/
structure Regs where
  af : Word
  bc : Word
  de : Word
  hl : Word
  sp : Word
  pc : Word
deriving DecidableEq, Repr

/-- InterruptState's four booleans (10_state.md R43). -/
structure IntState where
  ime : Bool
  eiPending : Bool
  halted : Bool
  stopped : Bool
deriving DecidableEq, Repr

/-- The fault mark (10_state.md R45). -/
inductive FaultMark where
  | illegalOpcode (pc : Word) (opcode : Byte)
deriving DecidableEq, Repr

/-- The values of one step: bytes consumed, the jump mark, extra cycles and the cost (10_state.md R46 to R49). -/
structure Scratch where
  bc : Nat
  jumped : Bool
  extraCycles : Nat
  cost : Nat
deriving DecidableEq, Repr

/-- The values R404 gives the scratch at the start of a step. -/
def Scratch.start : Scratch := { bc := 1, jumped := false, extraCycles := 0, cost := 0 }

/-- What the host and the peripherals do between two steps (60_exceptions.md R404, R417, R434, R435): the level of
`stopWake`, the IF bits they set, and the bus bytes they store. Log entry 5. -/
structure HostInput where
  stopWake : Bool
  ifSet : Byte
  stores : List (Word × Byte)
deriving DecidableEq, Repr

/-- Nothing happened between two steps. -/
def HostInput.none : HostInput := { stopWake := false, ifSet := 0, stores := [] }

/-- Why a step could stop with a host-level fault. An illegal opcode is not here: the spec gives the state after it, so
it is a next state with the fault mark set (60_exceptions.md R420; log entry 6). -/
inductive Fault where
  /-- A bus that is not total (20_memory.md R71, "treated as a collaborator defect"). Raised by nobody: the bus answers
  every access at every address. Safe: no run ends here. -/
  | busContractViolation
deriving DecidableEq, Repr

/-- Why a step could have no meaning. -/
inductive Refusal where
  /-- Raised by `exec`'s arm of an instruction that has no meaning yet. Safe. No arm raises it now. -/
  | notModelled (mnemonic : String)
  /-- Raised by `step` if the decoder refused the bytes the fetch read. Safe. The fetch reads as many bytes as the
  opcode's format has, so no step raises it. -/
  | undecodable (bytes : List Byte)
deriving DecidableEq, Repr

/-- Everything the spec gives the machine (INVENTORY.md, State). -/
structure State where
  regs : Regs
  int : IntState
  tick : Word
  fault : Option FaultMark
  scratch : Scratch
  bus : Bus
  params : Params
  inputs : List HostInput
deriving DecidableEq, Repr

/-- What a step, and a meaning, answers. -/
abbrev Result := Host.Outcome State Fault Refusal

/-- Construction with the parameters `BOOT_REGS`, `STOP_BYTES` and `Bus` (00_scope.md R9, 10_state.md R52): AF's low four
bits are stored masked; memory, IE and IF are what the bus holds. -/
def State.resetWith (b : BootRegs) (p : Params) (bus : Bus) : State :=
  { regs := { af := b.af &&& 0xFFF0, bc := b.bc, de := b.de, hl := b.hl, sp := b.sp, pc := b.pc }
    int := { ime := false, eiPending := false, halted := false, stopped := false }
    tick := 0
    fault := none
    scratch := Scratch.start
    bus := bus
    params := p
    inputs := [] }

/-- Reset: construction with the default parameters and a plain RAM (70_reset_and_hazards.md R450; log entries 1 to 4). -/
def State.reset : State := State.resetWith BootRegs.dmg Params.recommended Bus.freshRam

end Sys2Proof.Machine
end

