-- ==== Sys2Proof/Machine/Ops.lean ====
section
/-! DEFINITION. The named operations over registers, memory and the step's scratch that every meaning is written in
(00_scope.md R13 to R18), and the two ways the core changes control flow outside an instruction's own rule: interrupt
dispatch and the illegal-opcode fault (60_exceptions.md R400), with the return from interrupt beside them. -/

namespace Sys2Proof.Machine

/-! ## Registers (10_state.md R30 to R36) -/

/-- The eight 8-bit views (R31). -/
inductive Reg8 where
  | A | F | B | C | D | E | H | L
deriving DecidableEq, Repr

/-- The six 16-bit registers (R30). -/
inductive Reg16 where
  | AF | BC | DE | HL | SP | PC
deriving DecidableEq, Repr

/-- `R8[r]`: a view's byte of its pair (R32). -/
def State.r8 (s : State) : Reg8 → Byte
  | .A => hi8 s.regs.af
  | .F => lo8 s.regs.af
  | .B => hi8 s.regs.bc
  | .C => lo8 s.regs.bc
  | .D => hi8 s.regs.de
  | .E => lo8 s.regs.de
  | .H => hi8 s.regs.hl
  | .L => lo8 s.regs.hl

/-- `R8[r] <- v` (R32). A write of F stores `v & 0xF0` (R34). -/
def State.setR8 (s : State) (r : Reg8) (v : Byte) : State :=
  match r with
  | .A => { s with regs.af := cat16 v (lo8 s.regs.af) }
  | .F => { s with regs.af := cat16 (hi8 s.regs.af) (v &&& 0xF0) }
  | .B => { s with regs.bc := cat16 v (lo8 s.regs.bc) }
  | .C => { s with regs.bc := cat16 (hi8 s.regs.bc) v }
  | .D => { s with regs.de := cat16 v (lo8 s.regs.de) }
  | .E => { s with regs.de := cat16 (hi8 s.regs.de) v }
  | .H => { s with regs.hl := cat16 v (lo8 s.regs.hl) }
  | .L => { s with regs.hl := cat16 (hi8 s.regs.hl) v }

/-- `R16[rr]` (R13). -/
def State.r16 (s : State) : Reg16 → Word
  | .AF => s.regs.af
  | .BC => s.regs.bc
  | .DE => s.regs.de
  | .HL => s.regs.hl
  | .SP => s.regs.sp
  | .PC => s.regs.pc

/-- `R16[rr] <- v` (R33). A write of AF stores its low byte masked with 0xF0 (R34). -/
def State.setR16 (s : State) (rr : Reg16) (v : Word) : State :=
  match rr with
  | .AF => { s with regs.af := cat16 (hi8 v) (lo8 v &&& 0xF0) }
  | .BC => { s with regs.bc := v }
  | .DE => { s with regs.de := v }
  | .HL => { s with regs.hl := v }
  | .SP => { s with regs.sp := v }
  | .PC => { s with regs.pc := v }

/-! ## The bytes of the bus -/

/-- The byte at an address: the listed one, else `unlistedByte`. -/
def Memory.read : Memory → Nat → Byte
  | [], _ => unlistedByte
  | (k, v) :: m, a => if k = a then v else Memory.read m a

/-- Store a byte, keeping the canonical form: storing `unlistedByte` takes the entry out. -/
def Memory.write : Memory → Nat → Byte → Memory
  | [], a, v => if v = unlistedByte then [] else [(a, v)]
  | (k, u) :: m, a, v =>
    if a < k then (if v = unlistedByte then (k, u) :: m else (a, v) :: (k, u) :: m)
    else if a = k then (if v = unlistedByte then m else (a, v) :: m)
    else (k, u) :: Memory.write m a v

/-- Store bytes in order. -/
def Memory.writeAll : Memory → List (Word × Byte) → Memory
  | m, [] => m
  | m, (a, v) :: l => (m.write a.toNat v).writeAll l

/-- The bus byte at an address, observed without an access. -/
def State.byteAt (s : State) (a : Word) : Byte := s.bus.mem.read a.toNat

/-- Replace a bus byte without an access of the core: a peripheral's store. -/
def State.pokeByte (s : State) (a : Word) (v : Byte) : State :=
  { s with bus.mem := s.bus.mem.write a.toNat v }

/-! ## The bus parameter's read and write (20_memory.md R70) -/

/-- How the bus answers its next access. -/
def Bus.nextAnswer (b : Bus) : BusAnswer := b.answers.head?.getD .plainRam

/-- The byte that a read of an address would give now. -/
def Bus.readByte (b : Bus) (a : Word) : Byte :=
  match b.nextAnswer with
  | .plainRam => b.mem.read a.toNat
  | .own v _ => v

/-- The bus state after a read: a plain RAM's is unchanged, "a read is allowed to change bus state" (R70). -/
def Bus.afterRead (b : Bus) (a : Word) : Bus :=
  { mem := match b.nextAnswer with
      | .plainRam => b.mem
      | .own _ l => b.mem.writeAll l
    answers := b.answers.tail
    trace := b.trace ++ [.read a (b.readByte a)] }

/-- The bus state after a write: a plain RAM stores the byte, another bus may refuse or mask it (R70). -/
def Bus.afterWrite (b : Bus) (a : Word) (v : Byte) : Bus :=
  { mem := match b.nextAnswer with
      | .plainRam => b.mem.write a.toNat v
      | .own _ l => b.mem.writeAll l
    answers := b.answers.tail
    trace := b.trace ++ [.write a v] }

/-- The byte that `MemRead(addr, 1)` would give now. -/
abbrev State.readByte (s : State) (a : Word) : Byte := s.bus.readByte a

/-- `MemRead(addr, 1)` (00_scope.md R14): the byte the bus returns, and the bus after the read. -/
def State.memRead (s : State) (a : Word) : Byte × State := (s.readByte a, { s with bus := s.bus.afterRead a })

/-- `MemWrite(addr, 1, v)` (00_scope.md R14). -/
def State.memWrite (s : State) (a : Word) (v : Byte) : State := { s with bus := s.bus.afterWrite a v }

/-- `Write16(addr, v)`: the low byte at `addr`, then the high byte at `addr + 1` (00_scope.md R14). -/
def State.write16 (s : State) (a : Word) (v : Word) : State :=
  (s.memWrite a (lo8 v)).memWrite (a + 1) (hi8 v)

/-- `push16(v)` (00_scope.md R16): SP steps down before each write, the high byte goes first. -/
def State.push16 (s : State) (v : Word) : State :=
  let s1 := s.setR16 .SP (s.regs.sp - 1)
  let s2 := s1.memWrite s1.regs.sp (hi8 v)
  let s3 := s2.setR16 .SP (s2.regs.sp - 1)
  s3.memWrite s3.regs.sp (lo8 v)

/-- `pop16()` (00_scope.md R16): SP steps up after each read, the low byte comes first. -/
def State.pop16 (s : State) : Word × State :=
  let lo := s.memRead s.regs.sp
  let s1 := lo.2.setR16 .SP (lo.2.regs.sp + 1)
  let hi := s1.memRead s1.regs.sp
  (cat16 hi.1 lo.1, hi.2.setR16 .SP (hi.2.regs.sp + 1))

/-! ## The step's scratch: bytes consumed, jump, extra cycles, cost (10_state.md R38, R44, R46 to R49) -/

/-- `PC <- target` of a control-flow handler: it also marks the jump (00_scope.md R13, R47). -/
def State.jumpTo (s : State) (target : Word) : State :=
  { s with regs.pc := target, scratch.jumped := true }

/-- `extra(n)` (00_scope.md R18, R48). -/
def State.extra (s : State) (n : Nat) : State := { s with scratch.extraCycles := n }

/-- `charge(n)` (00_scope.md R18). -/
def State.charge (s : State) (n : Nat) : State := { s with scratch.cost := s.scratch.cost + n }

/-- The scratch of an instruction whose opcode, sub-opcode and immediates, `len` bytes, have been fetched (R46). -/
def State.fetched (s : State) (len : Nat) : State := { s with scratch := { Scratch.start with bc := len } }

/-- The PC advance after a handler: none after a jump, else `clamp(bc, 0, 3)` (R38). -/
def State.advancePc (s : State) : State :=
  if s.scratch.jumped then s else { s with regs.pc := s.regs.pc + BitVec.ofNat 16 (min s.scratch.bc 3) }

/-- The tick update at the end of a step: `TickCounter <- (TickCounter + cost) mod 65536` (R44, R412). -/
def State.updateTick (s : State) : State := { s with tick := s.tick + BitVec.ofNat 16 s.scratch.cost }

/-- One whole instruction of `len` bytes and base cost `base`: the handler's rule, the PC advance, and the charge of the
base cost and the handler's extra cycles (10_state.md R38, R49; 60_exceptions.md R411, R412). -/
def complete (len base : Nat) (handler : State → State) (s : State) : State :=
  let t := (handler (s.fetched len)).advancePc
  (t.charge (base + t.scratch.extraCycles)).updateTick

/-- `complete` as a meaning's answer: a next state. -/
def done (len base : Nat) (handler : State → State) (s : State) : Result := .next (complete len base handler s)

/-! ## IE, IF and the interrupt dispatch (60_exceptions.md R402, R403, R407, R408) -/

/-- The address of IE (R402, 10_state.md R51). -/
def ieAddr : Word := 0xFFFF

/-- The address of IF (R402, 10_state.md R51). -/
def ifAddr : Word := 0xFF0F

/-- `ieView(bus)`: the Interrupt Enable byte, without side effect (R402). -/
def Bus.ieView (b : Bus) : Byte := b.mem.read ieAddr.toNat

/-- `ifView(bus)`: the Interrupt Flag byte, without side effect (R402). -/
def Bus.ifView (b : Bus) : Byte := b.mem.read ifAddr.toNat

/-- `ifClear(bus, i)`: clears bit i of IF and nothing else, directly: it is no write, and takes no answer (R402). -/
def Bus.ifClear (b : Bus) (i : Nat) : Bus :=
  { b with mem := b.mem.write ifAddr.toNat (b.ifView &&& ~~~(1 <<< i : Byte)) }

/-- `pending = ieView(bus) & ifView(bus) & 0x1F` (R403). -/
def State.pending (s : State) : Byte := s.bus.ieView &&& s.bus.ifView &&& 0x1F

/-- `ifClear` on the bus of a state (R402). -/
def State.ifClear (s : State) (i : Nat) : State := { s with bus := s.bus.ifClear i }

/-- The index of the lowest set bit of a pending value: the highest priority (R407, R408). -/
def lowestPending (p : Byte) : Nat :=
  if p.getLsbD 0 then 0 else if p.getLsbD 1 then 1 else if p.getLsbD 2 then 2 else if p.getLsbD 3 then 3 else 4

/-- The fixed vector of interrupt i: 0x40, 0x48, 0x50, 0x58, 0x60 (R407). -/
def vector (i : Nat) : Word := 0x40 + BitVec.ofNat 16 (8 * i)

/-- Taking an interrupt, step 3 of R404: clear IME, clear the IF bit, push PC, go to the vector, charge 20 (R407). -/
def State.dispatch (s : State) (pending : Byte) : State :=
  let i := lowestPending pending
  let s1 := ({ s with int.ime := false } : State).ifClear i
  let s2 := (s1.push16 s1.regs.pc).setR16 .PC (vector i)
  (s2.charge 20).updateTick

/-- Return from a subroutine: `PC <- pop16()` (45_control.md R328). -/
def returnSub (s : State) : State :=
  let r := s.pop16
  r.2.jumpTo r.1

/-- The return from an interrupt handler: `PC <- pop16(); IME <- true` (45_control.md R330, 60_exceptions.md R414). -/
def returnFromInterrupt (s : State) : State := { returnSub s with int.ime := true }

/-- `raise IllegalOpcode(PC, op)` (00_scope.md R17, 46_system.md R366): the fault mark. -/
def State.raiseIllegal (s : State) (op : Byte) : State := { s with fault := some (.illegalOpcode s.regs.pc op) }

end Sys2Proof.Machine
end

