-- ==== Sys2Proof/Machine/Flags.lean ====
section
/-! DEFINITION. The four flags and every flag computation of the spec (10_state.md R35, R41; 42_alu8.md R211 to R219,
R244 to R251; 43_alu16.md R260, R261; 44_rotate_shift_bit.md R280 to R302). Inside a flag condition operands are unbounded
naturals (00_scope.md R11). -/

namespace Sys2Proof.Machine

/-- Zero, Subtraction, HalfCarry, Carry (10_state.md R35). -/
inductive Flag where
  | Z | N | H | C
deriving DecidableEq, Repr

/-- The flag's bit of F (10_state.md R35). -/
def Flag.bit : Flag → Nat
  | .Z => 7
  | .N => 6
  | .H => 5
  | .C => 4

/-- `GetFlag(f)` (10_state.md R35). -/
def State.flag (s : State) (f : Flag) : Bool := (s.r8 .F).getLsbD f.bit

/-- `SetFlag(f, b)`: that one bit of F (10_state.md R35). -/
def State.setFlag (s : State) (f : Flag) (b : Bool) : State :=
  s.setR8 .F (if b then s.r8 .F ||| (1 <<< f.bit : Byte) else s.r8 .F &&& ~~~(1 <<< f.bit : Byte))

/-- `F.Z <- z; F.N <- n; F.H <- h; F.C <- c` (42_alu8.md R219). -/
def State.setFlags (s : State) (z n h c : Bool) : State :=
  (((s.setFlag .Z z).setFlag .N n).setFlag .H h).setFlag .C c

/-- A result with the four flags an ALU function computes. -/
structure AluResult where
  res : Byte
  z : Bool
  n : Bool
  h : Bool
  c : Bool
deriving DecidableEq, Repr

/-- The low nibble of a byte, as a natural number (R11). -/
def lowNibble (a : Byte) : Nat := (a &&& 0x0F).toNat

/-- `alu_add` (42_alu8.md R211). -/
def aluAdd (a b : Byte) : AluResult :=
  { res := a + b, z := a + b == 0, n := false, h := decide (lowNibble a + lowNibble b > 0xF), c := decide (a.toNat + b.toNat > 0xFF) }

/-- `alu_adc` (42_alu8.md R212). -/
def aluAdc (a b : Byte) (cin : Bool) : AluResult :=
  { res := a + b + boolToByte cin
    z := a + b + boolToByte cin == 0
    n := false
    h := decide (lowNibble a + lowNibble b + cin.toNat > 0xF)
    c := decide (a.toNat + b.toNat + cin.toNat > 0xFF) }

/-- `alu_sub` (42_alu8.md R213). -/
def aluSub (a b : Byte) : AluResult :=
  { res := a - b, z := a - b == 0, n := true, h := decide (lowNibble a < lowNibble b), c := decide (b.toNat > a.toNat) }

/-- `alu_sbc` (42_alu8.md R214). -/
def aluSbc (a b : Byte) (cin : Bool) : AluResult :=
  { res := a - b - boolToByte cin
    z := a - b - boolToByte cin == 0
    n := true
    h := decide (lowNibble a < lowNibble b + cin.toNat)
    c := decide (b.toNat + cin.toNat > a.toNat) }

/-- `alu_and` (42_alu8.md R215). -/
def aluAnd (a b : Byte) : AluResult := { res := a &&& b, z := a &&& b == 0, n := false, h := true, c := false }

/-- `alu_xor` (42_alu8.md R216). -/
def aluXor (a b : Byte) : AluResult := { res := a ^^^ b, z := a ^^^ b == 0, n := false, h := false, c := false }

/-- `alu_or` (42_alu8.md R217). -/
def aluOr (a b : Byte) : AluResult := { res := a ||| b, z := a ||| b == 0, n := false, h := false, c := false }

/-- The 3-bit ALU operation field (30_encoding.md R110). -/
inductive AluOp where
  | add | adc | sub | sbc | and | xor | or | cp
deriving DecidableEq, Repr

/-- The 3-bit ALU operation field's value (30_encoding.md R110). -/
def AluOp.ofField (f : BitVec 3) : AluOp :=
  match f.toNat with
  | 0 => .add
  | 1 => .adc
  | 2 => .sub
  | 3 => .sbc
  | 4 => .and
  | 5 => .xor
  | 6 => .or
  | _ => .cp

/-- The ALU function of an operation (42_alu8.md R211 to R218). CP's flags are SUB's (R218). -/
def AluOp.eval (op : AluOp) (a b : Byte) (cin : Bool) : AluResult :=
  match op with
  | .add => aluAdd a b
  | .adc => aluAdc a b cin
  | .sub => aluSub a b
  | .sbc => aluSbc a b cin
  | .and => aluAnd a b
  | .xor => aluXor a b
  | .or => aluOr a b
  | .cp => aluSub a b

/-- The rotate and shift operations (30_encoding.md R111). -/
inductive ShiftOp where
  | rlc | rrc | rl | rr | sla | sra | swap | srl
deriving DecidableEq, Repr

/-- The 3-bit rotate/shift field (30_encoding.md R111). -/
def ShiftOp.ofField (f : BitVec 3) : ShiftOp :=
  match f.toNat with
  | 0 => .rlc
  | 1 => .rrc
  | 2 => .rl
  | 3 => .rr
  | 4 => .sla
  | 5 => .sra
  | 6 => .swap
  | _ => .srl

/-- The result and the bit shifted out; SWAP shifts nothing out, so its C is 0 (44_rotate_shift_bit.md R285 to R299). -/
def ShiftOp.eval (op : ShiftOp) (v : Byte) (cin : Bool) : Byte × Bool :=
  match op with
  | .rlc => ((v <<< 1) ||| boolToByte (v.getLsbD 7), v.getLsbD 7)
  | .rrc => ((v >>> 1) ||| (boolToByte (v.getLsbD 0) <<< 7), v.getLsbD 0)
  | .rl => ((v <<< 1) ||| boolToByte cin, v.getLsbD 7)
  | .rr => ((v >>> 1) ||| (boolToByte cin <<< 7), v.getLsbD 0)
  | .sla => (v <<< 1, v.getLsbD 7)
  | .sra => ((v >>> 1) ||| (v &&& 0x80), v.getLsbD 0)
  | .swap => (((v &&& 0x0F) <<< 4) ||| (v >>> 4), false)
  | .srl => (v >>> 1, v.getLsbD 0)

/-- `spadd(sp, n)`: the sum, and H and C from the unsigned sum of the low byte and n (43_alu16.md R260). -/
def spAdd (sp : Word) (n : Byte) : Word × Bool × Bool :=
  (sp + sext16 n, decide ((sp &&& 0x000F).toNat + (n &&& 0x0F).toNat > 0x0F), decide ((sp &&& 0x00FF).toNat + n.toNat > 0xFF))

/-- H of ADD HL,rr: the carry out of bit 11 (43_alu16.md R261). -/
def add16H (a b : Word) : Bool := decide ((a &&& 0x0FFF).toNat + (b &&& 0x0FFF).toNat > 0x0FFF)

/-- C of ADD HL,rr: the carry out of bit 15 (43_alu16.md R261). -/
def add16C (a b : Word) : Bool := decide (a.toNat + b.toNat > 0xFFFF)

/-- DAA's result and carry (42_alu8.md R248). -/
def daaAdjust (a : Byte) (n h c : Bool) : Byte × Bool :=
  if n then
    let a1 := if c then a - 0x60 else a
    (if h then a1 - 0x06 else a1, c)
  else
    let high := c || decide (a.toNat > 0x99)
    let a1 := if high then a + 0x60 else a
    (if h || decide ((a1 &&& 0x0F).toNat > 0x09) then a1 + 0x06 else a1, high)

end Sys2Proof.Machine
end

