-- ==== Sys2Proof/Machine/Alu16.lean ====
section
/-! DEFINITION. 16-bit arithmetic (43_alu16.md R260 to R264). -/

namespace Sys2Proof.Machine

/-- `R16[HL] <- HL + R16[rr]`, flags - 0 H C (R261). -/
def addHL (rr : Reg16) (s : State) : State :=
  let a := s.r16 .HL
  let b := s.r16 rr
  (((s.setR16 .HL (a + b)).setFlag .N false).setFlag .H (add16H a b)).setFlag .C (add16C a b)

/-- `R16[rr] <- R16[rr] + 1` (R262). -/
def incPair (rr : Reg16) (s : State) : State := s.setR16 rr (s.r16 rr + 1)

/-- `R16[rr] <- R16[rr] - 1` (R263). -/
def decPair (rr : Reg16) (s : State) : State := s.setR16 rr (s.r16 rr - 1)

/-- `SP <- SP + e8`, flags 0 0 H C of `spadd` (R264). -/
def addSP (n : Byte) (s : State) : State :=
  let r := spAdd (s.r16 .SP) n
  (s.setR16 .SP r.1).setFlags false false r.2.1 r.2.2

/-- ADD HL,BC (R261). -/
def execAddHLBC (s : State) : Result := done 1 8 (addHL .BC) s

/-- ADD HL,DE (R261). -/
def execAddHLDE (s : State) : Result := done 1 8 (addHL .DE) s

/-- ADD HL,HL (R261). -/
def execAddHLHL (s : State) : Result := done 1 8 (addHL .HL) s

/-- ADD HL,SP (R261). -/
def execAddHLSP (s : State) : Result := done 1 8 (addHL .SP) s

/-- INC BC (R262). -/
def execIncBC (s : State) : Result := done 1 8 (incPair .BC) s

/-- INC DE (R262). -/
def execIncDE (s : State) : Result := done 1 8 (incPair .DE) s

/-- INC HL (R262). -/
def execIncHL (s : State) : Result := done 1 8 (incPair .HL) s

/-- INC SP (R262). -/
def execIncSP (s : State) : Result := done 1 8 (incPair .SP) s

/-- DEC BC (R263). -/
def execDecBC (s : State) : Result := done 1 8 (decPair .BC) s

/-- DEC DE (R263). -/
def execDecDE (s : State) : Result := done 1 8 (decPair .DE) s

/-- DEC HL (R263). -/
def execDecHL (s : State) : Result := done 1 8 (decPair .HL) s

/-- DEC SP (R263). -/
def execDecSP (s : State) : Result := done 1 8 (decPair .SP) s

/-- ADD SP,e8 (R264). -/
def execAddSPe8 (n : Byte) (s : State) : Result := done 2 16 (addSP n) s

end Sys2Proof.Machine
end

