-- ==== Sys2Proof/Machine/Operands.lean ====
section
/-! DEFINITION. The operand forms of the instruction set (30_encoding.md R104 to R112): register fields, pair fields,
condition fields, the (HL) operand and the high-page address. -/

namespace Sys2Proof.Machine

/-- A 3-bit register operand: a register, or the byte at address HL (R104). -/
inductive Operand8 where
  | reg (r : Reg8)
  | atHL
deriving DecidableEq, Repr

/-- The 3-bit register field `r` (R104). -/
def Operand8.ofField (f : BitVec 3) : Operand8 :=
  match f.toNat with
  | 0 => .reg .B
  | 1 => .reg .C
  | 2 => .reg .D
  | 3 => .reg .E
  | 4 => .reg .H
  | 5 => .reg .L
  | 6 => .atHL
  | _ => .reg .A

/-- The 2-bit pair field `rr` of LD rr,d16, INC rr, DEC rr and ADD HL,rr (R105). -/
def pairOfField (f : BitVec 2) : Reg16 :=
  match f.toNat with
  | 0 => .BC
  | 1 => .DE
  | 2 => .HL
  | _ => .SP

/-- The 2-bit pair field `qq` of PUSH and POP (R106). -/
def stackPairOfField (f : BitVec 2) : Reg16 :=
  match f.toNat with
  | 0 => .BC
  | 1 => .DE
  | 2 => .HL
  | _ => .AF

/-- A condition (R107). -/
inductive Cond where
  | NZ | Z | NC | C
deriving DecidableEq, Repr

/-- The 2-bit condition field `cc` (R107). -/
def Cond.ofField (f : BitVec 2) : Cond :=
  match f.toNat with
  | 0 => .NZ
  | 1 => .Z
  | 2 => .NC
  | _ => .C

/-- Read an 8-bit operand: a register without an access, or one bus read at HL (44_rotate_shift_bit.md R284). -/
def State.readOperand (s : State) : Operand8 → Byte × State
  | .reg r => (s.r8 r, s)
  | .atHL => s.memRead (s.r16 .HL)

/-- Write an 8-bit operand: a register, or one bus write at HL (44_rotate_shift_bit.md R284). -/
def State.writeOperand (s : State) (o : Operand8) (v : Byte) : State :=
  match o with
  | .reg r => s.setR8 r v
  | .atHL => s.memWrite (s.r16 .HL) v

/-- The high-page address `0xFF00 + n` of LDH and LD (C) (30_encoding.md R112, 40_load8.md R151 to R154). -/
def highPage (n : Byte) : Word := 0xFF00 + zext16 n

end Sys2Proof.Machine
end

