-- ==== Sys2Proof/Machine/Alu8.lean ====
section
/-! DEFINITION. 8-bit arithmetic and logic (42_alu8.md R210 to R251). -/

namespace Sys2Proof.Machine

/-- Apply an ALU operation to A and `b` and write the result: CP writes the flags alone (R218, R219). -/
def aluWrite (op : AluOp) (b : Byte) (s : State) : State :=
  let r := op.eval (s.r8 .A) b (s.flag .C)
  let t := match op with
    | .cp => s
    | _ => s.setR8 .A r.res
  t.setFlags r.z r.n r.h r.c

/-- The register form: `b = R8[r]` (R210). -/
def aluReg (op : AluOp) (r : Reg8) (s : State) : State := aluWrite op (s.r8 r) s

/-- The memory form: `b = MemRead(R16[HL], 1)` (R210). -/
def aluAtHL (op : AluOp) (s : State) : State :=
  let m := s.memRead (s.r16 .HL)
  aluWrite op m.1 m.2

/-- The immediate form: `b` was fetched (R210). -/
def aluImm (op : AluOp) (b : Byte) (s : State) : State := aluWrite op b s

/-- `v + 1` with flags Z 0 H -, on a register or the byte at HL (R244, R245). -/
def incOperand (o : Operand8) (s : State) : State :=
  let m := s.readOperand o
  let t := m.2.writeOperand o (m.1 + 1)
  ((t.setFlag .Z (m.1 + 1 == 0)).setFlag .N false).setFlag .H (m.1 &&& 0x0F == 0x0F)

/-- `v - 1` with flags Z 1 H -, on a register or the byte at HL (R246, R247). -/
def decOperand (o : Operand8) (s : State) : State :=
  let m := s.readOperand o
  let t := m.2.writeOperand o (m.1 - 1)
  ((t.setFlag .Z (m.1 - 1 == 0)).setFlag .N true).setFlag .H (m.1 &&& 0x0F == 0x00)

/-- Decimal adjust A (R248). -/
def decimalAdjust (s : State) : State :=
  let r := daaAdjust (s.r8 .A) (s.flag .N) (s.flag .H) (s.flag .C)
  (((s.setR8 .A r.1).setFlag .Z (r.1 == 0)).setFlag .H false).setFlag .C r.2

/-- Complement A (R249). -/
def complementA (s : State) : State := ((s.setR8 .A (~~~ (s.r8 .A))).setFlag .N true).setFlag .H true

/-- Set the carry flag (R250). -/
def setCarry (s : State) : State := ((s.setFlag .N false).setFlag .H false).setFlag .C true

/-- Complement the carry flag (R251). -/
def complementCarry (s : State) : State :=
  ((s.setFlag .N false).setFlag .H false).setFlag .C (!s.flag .C)

/-- ADD A,B (R220). -/
def execAddAB (s : State) : Result := done 1 4 (aluReg .add .B) s

/-- ADD A,C (R220). -/
def execAddAC (s : State) : Result := done 1 4 (aluReg .add .C) s

/-- ADD A,D (R220). -/
def execAddAD (s : State) : Result := done 1 4 (aluReg .add .D) s

/-- ADD A,E (R220). -/
def execAddAE (s : State) : Result := done 1 4 (aluReg .add .E) s

/-- ADD A,H (R220). -/
def execAddAH (s : State) : Result := done 1 4 (aluReg .add .H) s

/-- ADD A,L (R220). -/
def execAddAL (s : State) : Result := done 1 4 (aluReg .add .L) s

/-- ADD A,A (R220). -/
def execAddAA (s : State) : Result := done 1 4 (aluReg .add .A) s

/-- ADD A,(HL) (R221). -/
def execAddAAtHL (s : State) : Result := done 1 8 (aluAtHL .add) s

/-- ADD A,d8 (R222). -/
def execAddAd8 (n : Byte) (s : State) : Result := done 2 8 (aluImm .add n) s

/-- ADC A,B (R223). -/
def execAdcAB (s : State) : Result := done 1 4 (aluReg .adc .B) s

/-- ADC A,C (R223). -/
def execAdcAC (s : State) : Result := done 1 4 (aluReg .adc .C) s

/-- ADC A,D (R223). -/
def execAdcAD (s : State) : Result := done 1 4 (aluReg .adc .D) s

/-- ADC A,E (R223). -/
def execAdcAE (s : State) : Result := done 1 4 (aluReg .adc .E) s

/-- ADC A,H (R223). -/
def execAdcAH (s : State) : Result := done 1 4 (aluReg .adc .H) s

/-- ADC A,L (R223). -/
def execAdcAL (s : State) : Result := done 1 4 (aluReg .adc .L) s

/-- ADC A,A (R223). -/
def execAdcAA (s : State) : Result := done 1 4 (aluReg .adc .A) s

/-- ADC A,(HL) (R224). -/
def execAdcAAtHL (s : State) : Result := done 1 8 (aluAtHL .adc) s

/-- ADC A,d8 (R225). -/
def execAdcAd8 (n : Byte) (s : State) : Result := done 2 8 (aluImm .adc n) s

/-- SUB B (R226). -/
def execSubB (s : State) : Result := done 1 4 (aluReg .sub .B) s

/-- SUB C (R226). -/
def execSubC (s : State) : Result := done 1 4 (aluReg .sub .C) s

/-- SUB D (R226). -/
def execSubD (s : State) : Result := done 1 4 (aluReg .sub .D) s

/-- SUB E (R226). -/
def execSubE (s : State) : Result := done 1 4 (aluReg .sub .E) s

/-- SUB H (R226). -/
def execSubH (s : State) : Result := done 1 4 (aluReg .sub .H) s

/-- SUB L (R226). -/
def execSubL (s : State) : Result := done 1 4 (aluReg .sub .L) s

/-- SUB A (R226). -/
def execSubA (s : State) : Result := done 1 4 (aluReg .sub .A) s

/-- SUB (HL) (R227). -/
def execSubAtHL (s : State) : Result := done 1 8 (aluAtHL .sub) s

/-- SUB d8 (R228). -/
def execSubd8 (n : Byte) (s : State) : Result := done 2 8 (aluImm .sub n) s

/-- SBC A,B (R229). -/
def execSbcAB (s : State) : Result := done 1 4 (aluReg .sbc .B) s

/-- SBC A,C (R229). -/
def execSbcAC (s : State) : Result := done 1 4 (aluReg .sbc .C) s

/-- SBC A,D (R229). -/
def execSbcAD (s : State) : Result := done 1 4 (aluReg .sbc .D) s

/-- SBC A,E (R229). -/
def execSbcAE (s : State) : Result := done 1 4 (aluReg .sbc .E) s

/-- SBC A,H (R229). -/
def execSbcAH (s : State) : Result := done 1 4 (aluReg .sbc .H) s

/-- SBC A,L (R229). -/
def execSbcAL (s : State) : Result := done 1 4 (aluReg .sbc .L) s

/-- SBC A,A (R229). -/
def execSbcAA (s : State) : Result := done 1 4 (aluReg .sbc .A) s

/-- SBC A,(HL) (R230). -/
def execSbcAAtHL (s : State) : Result := done 1 8 (aluAtHL .sbc) s

/-- SBC A,d8 (R231). -/
def execSbcAd8 (n : Byte) (s : State) : Result := done 2 8 (aluImm .sbc n) s

/-- AND B (R232). -/
def execAndB (s : State) : Result := done 1 4 (aluReg .and .B) s

/-- AND C (R232). -/
def execAndC (s : State) : Result := done 1 4 (aluReg .and .C) s

/-- AND D (R232). -/
def execAndD (s : State) : Result := done 1 4 (aluReg .and .D) s

/-- AND E (R232). -/
def execAndE (s : State) : Result := done 1 4 (aluReg .and .E) s

/-- AND H (R232). -/
def execAndH (s : State) : Result := done 1 4 (aluReg .and .H) s

/-- AND L (R232). -/
def execAndL (s : State) : Result := done 1 4 (aluReg .and .L) s

/-- AND A (R232). -/
def execAndA (s : State) : Result := done 1 4 (aluReg .and .A) s

/-- AND (HL) (R233). -/
def execAndAtHL (s : State) : Result := done 1 8 (aluAtHL .and) s

/-- AND d8 (R234). -/
def execAndd8 (n : Byte) (s : State) : Result := done 2 8 (aluImm .and n) s

/-- XOR B (R235). -/
def execXorB (s : State) : Result := done 1 4 (aluReg .xor .B) s

/-- XOR C (R235). -/
def execXorC (s : State) : Result := done 1 4 (aluReg .xor .C) s

/-- XOR D (R235). -/
def execXorD (s : State) : Result := done 1 4 (aluReg .xor .D) s

/-- XOR E (R235). -/
def execXorE (s : State) : Result := done 1 4 (aluReg .xor .E) s

/-- XOR H (R235). -/
def execXorH (s : State) : Result := done 1 4 (aluReg .xor .H) s

/-- XOR L (R235). -/
def execXorL (s : State) : Result := done 1 4 (aluReg .xor .L) s

/-- XOR A (R235). -/
def execXorA (s : State) : Result := done 1 4 (aluReg .xor .A) s

/-- XOR (HL) (R236). -/
def execXorAtHL (s : State) : Result := done 1 8 (aluAtHL .xor) s

/-- XOR d8 (R237). -/
def execXord8 (n : Byte) (s : State) : Result := done 2 8 (aluImm .xor n) s

/-- OR B (R238). -/
def execOrB (s : State) : Result := done 1 4 (aluReg .or .B) s

/-- OR C (R238). -/
def execOrC (s : State) : Result := done 1 4 (aluReg .or .C) s

/-- OR D (R238). -/
def execOrD (s : State) : Result := done 1 4 (aluReg .or .D) s

/-- OR E (R238). -/
def execOrE (s : State) : Result := done 1 4 (aluReg .or .E) s

/-- OR H (R238). -/
def execOrH (s : State) : Result := done 1 4 (aluReg .or .H) s

/-- OR L (R238). -/
def execOrL (s : State) : Result := done 1 4 (aluReg .or .L) s

/-- OR A (R238). -/
def execOrA (s : State) : Result := done 1 4 (aluReg .or .A) s

/-- OR (HL) (R239). -/
def execOrAtHL (s : State) : Result := done 1 8 (aluAtHL .or) s

/-- OR d8 (R240). -/
def execOrd8 (n : Byte) (s : State) : Result := done 2 8 (aluImm .or n) s

/-- CP B (R241). -/
def execCpB (s : State) : Result := done 1 4 (aluReg .cp .B) s

/-- CP C (R241). -/
def execCpC (s : State) : Result := done 1 4 (aluReg .cp .C) s

/-- CP D (R241). -/
def execCpD (s : State) : Result := done 1 4 (aluReg .cp .D) s

/-- CP E (R241). -/
def execCpE (s : State) : Result := done 1 4 (aluReg .cp .E) s

/-- CP H (R241). -/
def execCpH (s : State) : Result := done 1 4 (aluReg .cp .H) s

/-- CP L (R241). -/
def execCpL (s : State) : Result := done 1 4 (aluReg .cp .L) s

/-- CP A (R241). -/
def execCpA (s : State) : Result := done 1 4 (aluReg .cp .A) s

/-- CP (HL) (R242). -/
def execCpAtHL (s : State) : Result := done 1 8 (aluAtHL .cp) s

/-- CP d8 (R243). -/
def execCpd8 (n : Byte) (s : State) : Result := done 2 8 (aluImm .cp n) s

/-- INC B (R244). -/
def execIncB (s : State) : Result := done 1 4 (incOperand (.reg .B)) s

/-- INC C (R244). -/
def execIncC (s : State) : Result := done 1 4 (incOperand (.reg .C)) s

/-- INC D (R244). -/
def execIncD (s : State) : Result := done 1 4 (incOperand (.reg .D)) s

/-- INC E (R244). -/
def execIncE (s : State) : Result := done 1 4 (incOperand (.reg .E)) s

/-- INC H (R244). -/
def execIncH (s : State) : Result := done 1 4 (incOperand (.reg .H)) s

/-- INC L (R244). -/
def execIncL (s : State) : Result := done 1 4 (incOperand (.reg .L)) s

/-- INC A (R244). -/
def execIncA (s : State) : Result := done 1 4 (incOperand (.reg .A)) s

/-- INC (HL) (R245). -/
def execIncAtHL (s : State) : Result := done 1 12 (incOperand .atHL) s

/-- DEC B (R246). -/
def execDecB (s : State) : Result := done 1 4 (decOperand (.reg .B)) s

/-- DEC C (R246). -/
def execDecC (s : State) : Result := done 1 4 (decOperand (.reg .C)) s

/-- DEC D (R246). -/
def execDecD (s : State) : Result := done 1 4 (decOperand (.reg .D)) s

/-- DEC E (R246). -/
def execDecE (s : State) : Result := done 1 4 (decOperand (.reg .E)) s

/-- DEC H (R246). -/
def execDecH (s : State) : Result := done 1 4 (decOperand (.reg .H)) s

/-- DEC L (R246). -/
def execDecL (s : State) : Result := done 1 4 (decOperand (.reg .L)) s

/-- DEC A (R246). -/
def execDecA (s : State) : Result := done 1 4 (decOperand (.reg .A)) s

/-- DEC (HL) (R247). -/
def execDecAtHL (s : State) : Result := done 1 12 (decOperand .atHL) s

/-- DAA (R248). -/
def execDaa (s : State) : Result := done 1 4 decimalAdjust s

/-- CPL (R249). -/
def execCpl (s : State) : Result := done 1 4 complementA s

/-- SCF (R250). -/
def execScf (s : State) : Result := done 1 4 setCarry s

/-- CCF (R251). -/
def execCcf (s : State) : Result := done 1 4 complementCarry s

end Sys2Proof.Machine
end

