-- ==== Sys2Proof/Machine/Rotate.lean ====
section
/-! DEFINITION. Rotates and shifts, of A in the primary space and of any operand in the CB space
(44_rotate_shift_bit.md R280 to R300). -/

namespace Sys2Proof.Machine

/-- The short rotates of A: flags 0 0 0 C, "Z is forced false" (R280 to R283). -/
def rotateA (op : ShiftOp) (s : State) : State :=
  let r := op.eval (s.r8 .A) (s.flag .C)
  (s.setR8 .A r.1).setFlags false false false r.2

/-- A CB rotate or shift: read the operand, write the result, flags Z 0 0 C (R284 to R300). -/
def shiftOperand (op : ShiftOp) (o : Operand8) (s : State) : State :=
  let m := s.readOperand o
  let r := op.eval m.1 (s.flag .C)
  (m.2.writeOperand o r.1).setFlags (r.1 == 0) false false r.2

/-- RLCA (R280). -/
def execRlca (s : State) : Result := done 1 4 (rotateA .rlc) s

/-- RRCA (R281). -/
def execRrca (s : State) : Result := done 1 4 (rotateA .rrc) s

/-- RLA (R282). -/
def execRla (s : State) : Result := done 1 4 (rotateA .rl) s

/-- RRA (R283). -/
def execRra (s : State) : Result := done 1 4 (rotateA .rr) s

/-- RLC B (R285). -/
def execRlcB (s : State) : Result := done 2 8 (shiftOperand .rlc (.reg .B)) s

/-- RLC C (R285). -/
def execRlcC (s : State) : Result := done 2 8 (shiftOperand .rlc (.reg .C)) s

/-- RLC D (R285). -/
def execRlcD (s : State) : Result := done 2 8 (shiftOperand .rlc (.reg .D)) s

/-- RLC E (R285). -/
def execRlcE (s : State) : Result := done 2 8 (shiftOperand .rlc (.reg .E)) s

/-- RLC H (R285). -/
def execRlcH (s : State) : Result := done 2 8 (shiftOperand .rlc (.reg .H)) s

/-- RLC L (R285). -/
def execRlcL (s : State) : Result := done 2 8 (shiftOperand .rlc (.reg .L)) s

/-- RLC A (R285). -/
def execRlcA (s : State) : Result := done 2 8 (shiftOperand .rlc (.reg .A)) s

/-- RLC (HL) (R286). -/
def execRlcAtHL (s : State) : Result := done 2 16 (shiftOperand .rlc .atHL) s

/-- RRC B (R287). -/
def execRrcB (s : State) : Result := done 2 8 (shiftOperand .rrc (.reg .B)) s

/-- RRC C (R287). -/
def execRrcC (s : State) : Result := done 2 8 (shiftOperand .rrc (.reg .C)) s

/-- RRC D (R287). -/
def execRrcD (s : State) : Result := done 2 8 (shiftOperand .rrc (.reg .D)) s

/-- RRC E (R287). -/
def execRrcE (s : State) : Result := done 2 8 (shiftOperand .rrc (.reg .E)) s

/-- RRC H (R287). -/
def execRrcH (s : State) : Result := done 2 8 (shiftOperand .rrc (.reg .H)) s

/-- RRC L (R287). -/
def execRrcL (s : State) : Result := done 2 8 (shiftOperand .rrc (.reg .L)) s

/-- RRC A (R287). -/
def execRrcA (s : State) : Result := done 2 8 (shiftOperand .rrc (.reg .A)) s

/-- RRC (HL) (R288). -/
def execRrcAtHL (s : State) : Result := done 2 16 (shiftOperand .rrc .atHL) s

/-- RL B (R289). -/
def execRlB (s : State) : Result := done 2 8 (shiftOperand .rl (.reg .B)) s

/-- RL C (R289). -/
def execRlC (s : State) : Result := done 2 8 (shiftOperand .rl (.reg .C)) s

/-- RL D (R289). -/
def execRlD (s : State) : Result := done 2 8 (shiftOperand .rl (.reg .D)) s

/-- RL E (R289). -/
def execRlE (s : State) : Result := done 2 8 (shiftOperand .rl (.reg .E)) s

/-- RL H (R289). -/
def execRlH (s : State) : Result := done 2 8 (shiftOperand .rl (.reg .H)) s

/-- RL L (R289). -/
def execRlL (s : State) : Result := done 2 8 (shiftOperand .rl (.reg .L)) s

/-- RL A (R289). -/
def execRlA (s : State) : Result := done 2 8 (shiftOperand .rl (.reg .A)) s

/-- RL (HL) (R290). -/
def execRlAtHL (s : State) : Result := done 2 16 (shiftOperand .rl .atHL) s

/-- RR B (R291). -/
def execRrB (s : State) : Result := done 2 8 (shiftOperand .rr (.reg .B)) s

/-- RR C (R291). -/
def execRrC (s : State) : Result := done 2 8 (shiftOperand .rr (.reg .C)) s

/-- RR D (R291). -/
def execRrD (s : State) : Result := done 2 8 (shiftOperand .rr (.reg .D)) s

/-- RR E (R291). -/
def execRrE (s : State) : Result := done 2 8 (shiftOperand .rr (.reg .E)) s

/-- RR H (R291). -/
def execRrH (s : State) : Result := done 2 8 (shiftOperand .rr (.reg .H)) s

/-- RR L (R291). -/
def execRrL (s : State) : Result := done 2 8 (shiftOperand .rr (.reg .L)) s

/-- RR A (R291). -/
def execRrA (s : State) : Result := done 2 8 (shiftOperand .rr (.reg .A)) s

/-- RR (HL) (R292). -/
def execRrAtHL (s : State) : Result := done 2 16 (shiftOperand .rr .atHL) s

/-- SLA B (R293). -/
def execSlaB (s : State) : Result := done 2 8 (shiftOperand .sla (.reg .B)) s

/-- SLA C (R293). -/
def execSlaC (s : State) : Result := done 2 8 (shiftOperand .sla (.reg .C)) s

/-- SLA D (R293). -/
def execSlaD (s : State) : Result := done 2 8 (shiftOperand .sla (.reg .D)) s

/-- SLA E (R293). -/
def execSlaE (s : State) : Result := done 2 8 (shiftOperand .sla (.reg .E)) s

/-- SLA H (R293). -/
def execSlaH (s : State) : Result := done 2 8 (shiftOperand .sla (.reg .H)) s

/-- SLA L (R293). -/
def execSlaL (s : State) : Result := done 2 8 (shiftOperand .sla (.reg .L)) s

/-- SLA A (R293). -/
def execSlaA (s : State) : Result := done 2 8 (shiftOperand .sla (.reg .A)) s

/-- SLA (HL) (R294). -/
def execSlaAtHL (s : State) : Result := done 2 16 (shiftOperand .sla .atHL) s

/-- SRA B (R295). -/
def execSraB (s : State) : Result := done 2 8 (shiftOperand .sra (.reg .B)) s

/-- SRA C (R295). -/
def execSraC (s : State) : Result := done 2 8 (shiftOperand .sra (.reg .C)) s

/-- SRA D (R295). -/
def execSraD (s : State) : Result := done 2 8 (shiftOperand .sra (.reg .D)) s

/-- SRA E (R295). -/
def execSraE (s : State) : Result := done 2 8 (shiftOperand .sra (.reg .E)) s

/-- SRA H (R295). -/
def execSraH (s : State) : Result := done 2 8 (shiftOperand .sra (.reg .H)) s

/-- SRA L (R295). -/
def execSraL (s : State) : Result := done 2 8 (shiftOperand .sra (.reg .L)) s

/-- SRA A (R295). -/
def execSraA (s : State) : Result := done 2 8 (shiftOperand .sra (.reg .A)) s

/-- SRA (HL) (R296). -/
def execSraAtHL (s : State) : Result := done 2 16 (shiftOperand .sra .atHL) s

/-- SWAP B (R297). -/
def execSwapB (s : State) : Result := done 2 8 (shiftOperand .swap (.reg .B)) s

/-- SWAP C (R297). -/
def execSwapC (s : State) : Result := done 2 8 (shiftOperand .swap (.reg .C)) s

/-- SWAP D (R297). -/
def execSwapD (s : State) : Result := done 2 8 (shiftOperand .swap (.reg .D)) s

/-- SWAP E (R297). -/
def execSwapE (s : State) : Result := done 2 8 (shiftOperand .swap (.reg .E)) s

/-- SWAP H (R297). -/
def execSwapH (s : State) : Result := done 2 8 (shiftOperand .swap (.reg .H)) s

/-- SWAP L (R297). -/
def execSwapL (s : State) : Result := done 2 8 (shiftOperand .swap (.reg .L)) s

/-- SWAP A (R297). -/
def execSwapA (s : State) : Result := done 2 8 (shiftOperand .swap (.reg .A)) s

/-- SWAP (HL) (R298). -/
def execSwapAtHL (s : State) : Result := done 2 16 (shiftOperand .swap .atHL) s

/-- SRL B (R299). -/
def execSrlB (s : State) : Result := done 2 8 (shiftOperand .srl (.reg .B)) s

/-- SRL C (R299). -/
def execSrlC (s : State) : Result := done 2 8 (shiftOperand .srl (.reg .C)) s

/-- SRL D (R299). -/
def execSrlD (s : State) : Result := done 2 8 (shiftOperand .srl (.reg .D)) s

/-- SRL E (R299). -/
def execSrlE (s : State) : Result := done 2 8 (shiftOperand .srl (.reg .E)) s

/-- SRL H (R299). -/
def execSrlH (s : State) : Result := done 2 8 (shiftOperand .srl (.reg .H)) s

/-- SRL L (R299). -/
def execSrlL (s : State) : Result := done 2 8 (shiftOperand .srl (.reg .L)) s

/-- SRL A (R299). -/
def execSrlA (s : State) : Result := done 2 8 (shiftOperand .srl (.reg .A)) s

/-- SRL (HL) (R300). -/
def execSrlAtHL (s : State) : Result := done 2 16 (shiftOperand .srl .atHL) s

end Sys2Proof.Machine
end

