-- ==== Sys2Proof/Machine/BitOps.lean ====
section
/-! DEFINITION. BIT, RES and SET (44_rotate_shift_bit.md R301 to R306), and the lead byte of the CB space
(46_system.md R365). -/

namespace Sys2Proof.Machine

/-- `F.Z <- (v[b] == 0)`, N 0, H 1, C unchanged; no write (R301, R302). -/
def bitTest (b : Nat) (o : Operand8) (s : State) : State :=
  let m := s.readOperand o
  ((m.2.setFlag .Z (!m.1.getLsbD b)).setFlag .N false).setFlag .H true

/-- `v & ~(1 << b)` back to the operand (R303, R304). -/
def bitReset (b : Nat) (o : Operand8) (s : State) : State :=
  let m := s.readOperand o
  m.2.writeOperand o (m.1 &&& ~~~(1 <<< b : Byte))

/-- `v | (1 << b)` back to the operand (R305, R306). -/
def bitSet (b : Nat) (o : Operand8) (s : State) : State :=
  let m := s.readOperand o
  m.2.writeOperand o (m.1 ||| (1 <<< b : Byte))

/-- "run the rule of the CB instruction `sub`", by the fields of the sub-opcode byte (R365, 30_encoding.md R102). -/
def cbHandler (sub : Byte) (s : State) : State :=
  match (fieldX sub).toNat with
  | 0 => shiftOperand (ShiftOp.ofField (fieldY sub)) (Operand8.ofField (fieldZ sub)) s
  | 1 => bitTest (fieldY sub).toNat (Operand8.ofField (fieldZ sub)) s
  | 2 => bitReset (fieldY sub).toNat (Operand8.ofField (fieldZ sub)) s
  | _ => bitSet (fieldY sub).toNat (Operand8.ofField (fieldZ sub)) s

/-- PREFIX CB with its sub-opcode: two bytes, the lead byte's base cost plus the CB table's entry (R365, R461). No word
decodes to this constructor (log entry 7). -/
def execPrefixCB (sub : Byte) (s : State) : Result := done 2 (baseCost 0xCB + cbBase sub) (cbHandler sub) s

/-- BIT 0,B (R301). -/
def execBit0B (s : State) : Result := done 2 8 (bitTest 0 (.reg .B)) s

/-- BIT 0,C (R301). -/
def execBit0C (s : State) : Result := done 2 8 (bitTest 0 (.reg .C)) s

/-- BIT 0,D (R301). -/
def execBit0D (s : State) : Result := done 2 8 (bitTest 0 (.reg .D)) s

/-- BIT 0,E (R301). -/
def execBit0E (s : State) : Result := done 2 8 (bitTest 0 (.reg .E)) s

/-- BIT 0,H (R301). -/
def execBit0H (s : State) : Result := done 2 8 (bitTest 0 (.reg .H)) s

/-- BIT 0,L (R301). -/
def execBit0L (s : State) : Result := done 2 8 (bitTest 0 (.reg .L)) s

/-- BIT 0,A (R301). -/
def execBit0A (s : State) : Result := done 2 8 (bitTest 0 (.reg .A)) s

/-- BIT 1,B (R301). -/
def execBit1B (s : State) : Result := done 2 8 (bitTest 1 (.reg .B)) s

/-- BIT 1,C (R301). -/
def execBit1C (s : State) : Result := done 2 8 (bitTest 1 (.reg .C)) s

/-- BIT 1,D (R301). -/
def execBit1D (s : State) : Result := done 2 8 (bitTest 1 (.reg .D)) s

/-- BIT 1,E (R301). -/
def execBit1E (s : State) : Result := done 2 8 (bitTest 1 (.reg .E)) s

/-- BIT 1,H (R301). -/
def execBit1H (s : State) : Result := done 2 8 (bitTest 1 (.reg .H)) s

/-- BIT 1,L (R301). -/
def execBit1L (s : State) : Result := done 2 8 (bitTest 1 (.reg .L)) s

/-- BIT 1,A (R301). -/
def execBit1A (s : State) : Result := done 2 8 (bitTest 1 (.reg .A)) s

/-- BIT 2,B (R301). -/
def execBit2B (s : State) : Result := done 2 8 (bitTest 2 (.reg .B)) s

/-- BIT 2,C (R301). -/
def execBit2C (s : State) : Result := done 2 8 (bitTest 2 (.reg .C)) s

/-- BIT 2,D (R301). -/
def execBit2D (s : State) : Result := done 2 8 (bitTest 2 (.reg .D)) s

/-- BIT 2,E (R301). -/
def execBit2E (s : State) : Result := done 2 8 (bitTest 2 (.reg .E)) s

/-- BIT 2,H (R301). -/
def execBit2H (s : State) : Result := done 2 8 (bitTest 2 (.reg .H)) s

/-- BIT 2,L (R301). -/
def execBit2L (s : State) : Result := done 2 8 (bitTest 2 (.reg .L)) s

/-- BIT 2,A (R301). -/
def execBit2A (s : State) : Result := done 2 8 (bitTest 2 (.reg .A)) s

/-- BIT 3,B (R301). -/
def execBit3B (s : State) : Result := done 2 8 (bitTest 3 (.reg .B)) s

/-- BIT 3,C (R301). -/
def execBit3C (s : State) : Result := done 2 8 (bitTest 3 (.reg .C)) s

/-- BIT 3,D (R301). -/
def execBit3D (s : State) : Result := done 2 8 (bitTest 3 (.reg .D)) s

/-- BIT 3,E (R301). -/
def execBit3E (s : State) : Result := done 2 8 (bitTest 3 (.reg .E)) s

/-- BIT 3,H (R301). -/
def execBit3H (s : State) : Result := done 2 8 (bitTest 3 (.reg .H)) s

/-- BIT 3,L (R301). -/
def execBit3L (s : State) : Result := done 2 8 (bitTest 3 (.reg .L)) s

/-- BIT 3,A (R301). -/
def execBit3A (s : State) : Result := done 2 8 (bitTest 3 (.reg .A)) s

/-- BIT 4,B (R301). -/
def execBit4B (s : State) : Result := done 2 8 (bitTest 4 (.reg .B)) s

/-- BIT 4,C (R301). -/
def execBit4C (s : State) : Result := done 2 8 (bitTest 4 (.reg .C)) s

/-- BIT 4,D (R301). -/
def execBit4D (s : State) : Result := done 2 8 (bitTest 4 (.reg .D)) s

/-- BIT 4,E (R301). -/
def execBit4E (s : State) : Result := done 2 8 (bitTest 4 (.reg .E)) s

/-- BIT 4,H (R301). -/
def execBit4H (s : State) : Result := done 2 8 (bitTest 4 (.reg .H)) s

/-- BIT 4,L (R301). -/
def execBit4L (s : State) : Result := done 2 8 (bitTest 4 (.reg .L)) s

/-- BIT 4,A (R301). -/
def execBit4A (s : State) : Result := done 2 8 (bitTest 4 (.reg .A)) s

/-- BIT 5,B (R301). -/
def execBit5B (s : State) : Result := done 2 8 (bitTest 5 (.reg .B)) s

/-- BIT 5,C (R301). -/
def execBit5C (s : State) : Result := done 2 8 (bitTest 5 (.reg .C)) s

/-- BIT 5,D (R301). -/
def execBit5D (s : State) : Result := done 2 8 (bitTest 5 (.reg .D)) s

/-- BIT 5,E (R301). -/
def execBit5E (s : State) : Result := done 2 8 (bitTest 5 (.reg .E)) s

/-- BIT 5,H (R301). -/
def execBit5H (s : State) : Result := done 2 8 (bitTest 5 (.reg .H)) s

/-- BIT 5,L (R301). -/
def execBit5L (s : State) : Result := done 2 8 (bitTest 5 (.reg .L)) s

/-- BIT 5,A (R301). -/
def execBit5A (s : State) : Result := done 2 8 (bitTest 5 (.reg .A)) s

/-- BIT 6,B (R301). -/
def execBit6B (s : State) : Result := done 2 8 (bitTest 6 (.reg .B)) s

/-- BIT 6,C (R301). -/
def execBit6C (s : State) : Result := done 2 8 (bitTest 6 (.reg .C)) s

/-- BIT 6,D (R301). -/
def execBit6D (s : State) : Result := done 2 8 (bitTest 6 (.reg .D)) s

/-- BIT 6,E (R301). -/
def execBit6E (s : State) : Result := done 2 8 (bitTest 6 (.reg .E)) s

/-- BIT 6,H (R301). -/
def execBit6H (s : State) : Result := done 2 8 (bitTest 6 (.reg .H)) s

/-- BIT 6,L (R301). -/
def execBit6L (s : State) : Result := done 2 8 (bitTest 6 (.reg .L)) s

/-- BIT 6,A (R301). -/
def execBit6A (s : State) : Result := done 2 8 (bitTest 6 (.reg .A)) s

/-- BIT 7,B (R301). -/
def execBit7B (s : State) : Result := done 2 8 (bitTest 7 (.reg .B)) s

/-- BIT 7,C (R301). -/
def execBit7C (s : State) : Result := done 2 8 (bitTest 7 (.reg .C)) s

/-- BIT 7,D (R301). -/
def execBit7D (s : State) : Result := done 2 8 (bitTest 7 (.reg .D)) s

/-- BIT 7,E (R301). -/
def execBit7E (s : State) : Result := done 2 8 (bitTest 7 (.reg .E)) s

/-- BIT 7,H (R301). -/
def execBit7H (s : State) : Result := done 2 8 (bitTest 7 (.reg .H)) s

/-- BIT 7,L (R301). -/
def execBit7L (s : State) : Result := done 2 8 (bitTest 7 (.reg .L)) s

/-- BIT 7,A (R301). -/
def execBit7A (s : State) : Result := done 2 8 (bitTest 7 (.reg .A)) s

/-- BIT 0,(HL) (R302). -/
def execBit0AtHL (s : State) : Result := done 2 12 (bitTest 0 .atHL) s

/-- BIT 1,(HL) (R302). -/
def execBit1AtHL (s : State) : Result := done 2 12 (bitTest 1 .atHL) s

/-- BIT 2,(HL) (R302). -/
def execBit2AtHL (s : State) : Result := done 2 12 (bitTest 2 .atHL) s

/-- BIT 3,(HL) (R302). -/
def execBit3AtHL (s : State) : Result := done 2 12 (bitTest 3 .atHL) s

/-- BIT 4,(HL) (R302). -/
def execBit4AtHL (s : State) : Result := done 2 12 (bitTest 4 .atHL) s

/-- BIT 5,(HL) (R302). -/
def execBit5AtHL (s : State) : Result := done 2 12 (bitTest 5 .atHL) s

/-- BIT 6,(HL) (R302). -/
def execBit6AtHL (s : State) : Result := done 2 12 (bitTest 6 .atHL) s

/-- BIT 7,(HL) (R302). -/
def execBit7AtHL (s : State) : Result := done 2 12 (bitTest 7 .atHL) s

/-- RES 0,B (R303). -/
def execRes0B (s : State) : Result := done 2 8 (bitReset 0 (.reg .B)) s

/-- RES 0,C (R303). -/
def execRes0C (s : State) : Result := done 2 8 (bitReset 0 (.reg .C)) s

/-- RES 0,D (R303). -/
def execRes0D (s : State) : Result := done 2 8 (bitReset 0 (.reg .D)) s

/-- RES 0,E (R303). -/
def execRes0E (s : State) : Result := done 2 8 (bitReset 0 (.reg .E)) s

/-- RES 0,H (R303). -/
def execRes0H (s : State) : Result := done 2 8 (bitReset 0 (.reg .H)) s

/-- RES 0,L (R303). -/
def execRes0L (s : State) : Result := done 2 8 (bitReset 0 (.reg .L)) s

/-- RES 0,A (R303). -/
def execRes0A (s : State) : Result := done 2 8 (bitReset 0 (.reg .A)) s

/-- RES 1,B (R303). -/
def execRes1B (s : State) : Result := done 2 8 (bitReset 1 (.reg .B)) s

/-- RES 1,C (R303). -/
def execRes1C (s : State) : Result := done 2 8 (bitReset 1 (.reg .C)) s

/-- RES 1,D (R303). -/
def execRes1D (s : State) : Result := done 2 8 (bitReset 1 (.reg .D)) s

/-- RES 1,E (R303). -/
def execRes1E (s : State) : Result := done 2 8 (bitReset 1 (.reg .E)) s

/-- RES 1,H (R303). -/
def execRes1H (s : State) : Result := done 2 8 (bitReset 1 (.reg .H)) s

/-- RES 1,L (R303). -/
def execRes1L (s : State) : Result := done 2 8 (bitReset 1 (.reg .L)) s

/-- RES 1,A (R303). -/
def execRes1A (s : State) : Result := done 2 8 (bitReset 1 (.reg .A)) s

/-- RES 2,B (R303). -/
def execRes2B (s : State) : Result := done 2 8 (bitReset 2 (.reg .B)) s

/-- RES 2,C (R303). -/
def execRes2C (s : State) : Result := done 2 8 (bitReset 2 (.reg .C)) s

/-- RES 2,D (R303). -/
def execRes2D (s : State) : Result := done 2 8 (bitReset 2 (.reg .D)) s

/-- RES 2,E (R303). -/
def execRes2E (s : State) : Result := done 2 8 (bitReset 2 (.reg .E)) s

/-- RES 2,H (R303). -/
def execRes2H (s : State) : Result := done 2 8 (bitReset 2 (.reg .H)) s

/-- RES 2,L (R303). -/
def execRes2L (s : State) : Result := done 2 8 (bitReset 2 (.reg .L)) s

/-- RES 2,A (R303). -/
def execRes2A (s : State) : Result := done 2 8 (bitReset 2 (.reg .A)) s

/-- RES 3,B (R303). -/
def execRes3B (s : State) : Result := done 2 8 (bitReset 3 (.reg .B)) s

/-- RES 3,C (R303). -/
def execRes3C (s : State) : Result := done 2 8 (bitReset 3 (.reg .C)) s

/-- RES 3,D (R303). -/
def execRes3D (s : State) : Result := done 2 8 (bitReset 3 (.reg .D)) s

/-- RES 3,E (R303). -/
def execRes3E (s : State) : Result := done 2 8 (bitReset 3 (.reg .E)) s

/-- RES 3,H (R303). -/
def execRes3H (s : State) : Result := done 2 8 (bitReset 3 (.reg .H)) s

/-- RES 3,L (R303). -/
def execRes3L (s : State) : Result := done 2 8 (bitReset 3 (.reg .L)) s

/-- RES 3,A (R303). -/
def execRes3A (s : State) : Result := done 2 8 (bitReset 3 (.reg .A)) s

/-- RES 4,B (R303). -/
def execRes4B (s : State) : Result := done 2 8 (bitReset 4 (.reg .B)) s

/-- RES 4,C (R303). -/
def execRes4C (s : State) : Result := done 2 8 (bitReset 4 (.reg .C)) s

/-- RES 4,D (R303). -/
def execRes4D (s : State) : Result := done 2 8 (bitReset 4 (.reg .D)) s

/-- RES 4,E (R303). -/
def execRes4E (s : State) : Result := done 2 8 (bitReset 4 (.reg .E)) s

/-- RES 4,H (R303). -/
def execRes4H (s : State) : Result := done 2 8 (bitReset 4 (.reg .H)) s

/-- RES 4,L (R303). -/
def execRes4L (s : State) : Result := done 2 8 (bitReset 4 (.reg .L)) s

/-- RES 4,A (R303). -/
def execRes4A (s : State) : Result := done 2 8 (bitReset 4 (.reg .A)) s

/-- RES 5,B (R303). -/
def execRes5B (s : State) : Result := done 2 8 (bitReset 5 (.reg .B)) s

/-- RES 5,C (R303). -/
def execRes5C (s : State) : Result := done 2 8 (bitReset 5 (.reg .C)) s

/-- RES 5,D (R303). -/
def execRes5D (s : State) : Result := done 2 8 (bitReset 5 (.reg .D)) s

/-- RES 5,E (R303). -/
def execRes5E (s : State) : Result := done 2 8 (bitReset 5 (.reg .E)) s

/-- RES 5,H (R303). -/
def execRes5H (s : State) : Result := done 2 8 (bitReset 5 (.reg .H)) s

/-- RES 5,L (R303). -/
def execRes5L (s : State) : Result := done 2 8 (bitReset 5 (.reg .L)) s

/-- RES 5,A (R303). -/
def execRes5A (s : State) : Result := done 2 8 (bitReset 5 (.reg .A)) s

/-- RES 6,B (R303). -/
def execRes6B (s : State) : Result := done 2 8 (bitReset 6 (.reg .B)) s

/-- RES 6,C (R303). -/
def execRes6C (s : State) : Result := done 2 8 (bitReset 6 (.reg .C)) s

/-- RES 6,D (R303). -/
def execRes6D (s : State) : Result := done 2 8 (bitReset 6 (.reg .D)) s

/-- RES 6,E (R303). -/
def execRes6E (s : State) : Result := done 2 8 (bitReset 6 (.reg .E)) s

/-- RES 6,H (R303). -/
def execRes6H (s : State) : Result := done 2 8 (bitReset 6 (.reg .H)) s

/-- RES 6,L (R303). -/
def execRes6L (s : State) : Result := done 2 8 (bitReset 6 (.reg .L)) s

/-- RES 6,A (R303). -/
def execRes6A (s : State) : Result := done 2 8 (bitReset 6 (.reg .A)) s

/-- RES 7,B (R303). -/
def execRes7B (s : State) : Result := done 2 8 (bitReset 7 (.reg .B)) s

/-- RES 7,C (R303). -/
def execRes7C (s : State) : Result := done 2 8 (bitReset 7 (.reg .C)) s

/-- RES 7,D (R303). -/
def execRes7D (s : State) : Result := done 2 8 (bitReset 7 (.reg .D)) s

/-- RES 7,E (R303). -/
def execRes7E (s : State) : Result := done 2 8 (bitReset 7 (.reg .E)) s

/-- RES 7,H (R303). -/
def execRes7H (s : State) : Result := done 2 8 (bitReset 7 (.reg .H)) s

/-- RES 7,L (R303). -/
def execRes7L (s : State) : Result := done 2 8 (bitReset 7 (.reg .L)) s

/-- RES 7,A (R303). -/
def execRes7A (s : State) : Result := done 2 8 (bitReset 7 (.reg .A)) s

/-- RES 0,(HL) (R304). -/
def execRes0AtHL (s : State) : Result := done 2 16 (bitReset 0 .atHL) s

/-- RES 1,(HL) (R304). -/
def execRes1AtHL (s : State) : Result := done 2 16 (bitReset 1 .atHL) s

/-- RES 2,(HL) (R304). -/
def execRes2AtHL (s : State) : Result := done 2 16 (bitReset 2 .atHL) s

/-- RES 3,(HL) (R304). -/
def execRes3AtHL (s : State) : Result := done 2 16 (bitReset 3 .atHL) s

/-- RES 4,(HL) (R304). -/
def execRes4AtHL (s : State) : Result := done 2 16 (bitReset 4 .atHL) s

/-- RES 5,(HL) (R304). -/
def execRes5AtHL (s : State) : Result := done 2 16 (bitReset 5 .atHL) s

/-- RES 6,(HL) (R304). -/
def execRes6AtHL (s : State) : Result := done 2 16 (bitReset 6 .atHL) s

/-- RES 7,(HL) (R304). -/
def execRes7AtHL (s : State) : Result := done 2 16 (bitReset 7 .atHL) s

/-- SET 0,B (R305). -/
def execSet0B (s : State) : Result := done 2 8 (bitSet 0 (.reg .B)) s

/-- SET 0,C (R305). -/
def execSet0C (s : State) : Result := done 2 8 (bitSet 0 (.reg .C)) s

/-- SET 0,D (R305). -/
def execSet0D (s : State) : Result := done 2 8 (bitSet 0 (.reg .D)) s

/-- SET 0,E (R305). -/
def execSet0E (s : State) : Result := done 2 8 (bitSet 0 (.reg .E)) s

/-- SET 0,H (R305). -/
def execSet0H (s : State) : Result := done 2 8 (bitSet 0 (.reg .H)) s

/-- SET 0,L (R305). -/
def execSet0L (s : State) : Result := done 2 8 (bitSet 0 (.reg .L)) s

/-- SET 0,A (R305). -/
def execSet0A (s : State) : Result := done 2 8 (bitSet 0 (.reg .A)) s

/-- SET 1,B (R305). -/
def execSet1B (s : State) : Result := done 2 8 (bitSet 1 (.reg .B)) s

/-- SET 1,C (R305). -/
def execSet1C (s : State) : Result := done 2 8 (bitSet 1 (.reg .C)) s

/-- SET 1,D (R305). -/
def execSet1D (s : State) : Result := done 2 8 (bitSet 1 (.reg .D)) s

/-- SET 1,E (R305). -/
def execSet1E (s : State) : Result := done 2 8 (bitSet 1 (.reg .E)) s

/-- SET 1,H (R305). -/
def execSet1H (s : State) : Result := done 2 8 (bitSet 1 (.reg .H)) s

/-- SET 1,L (R305). -/
def execSet1L (s : State) : Result := done 2 8 (bitSet 1 (.reg .L)) s

/-- SET 1,A (R305). -/
def execSet1A (s : State) : Result := done 2 8 (bitSet 1 (.reg .A)) s

/-- SET 2,B (R305). -/
def execSet2B (s : State) : Result := done 2 8 (bitSet 2 (.reg .B)) s

/-- SET 2,C (R305). -/
def execSet2C (s : State) : Result := done 2 8 (bitSet 2 (.reg .C)) s

/-- SET 2,D (R305). -/
def execSet2D (s : State) : Result := done 2 8 (bitSet 2 (.reg .D)) s

/-- SET 2,E (R305). -/
def execSet2E (s : State) : Result := done 2 8 (bitSet 2 (.reg .E)) s

/-- SET 2,H (R305). -/
def execSet2H (s : State) : Result := done 2 8 (bitSet 2 (.reg .H)) s

/-- SET 2,L (R305). -/
def execSet2L (s : State) : Result := done 2 8 (bitSet 2 (.reg .L)) s

/-- SET 2,A (R305). -/
def execSet2A (s : State) : Result := done 2 8 (bitSet 2 (.reg .A)) s

/-- SET 3,B (R305). -/
def execSet3B (s : State) : Result := done 2 8 (bitSet 3 (.reg .B)) s

/-- SET 3,C (R305). -/
def execSet3C (s : State) : Result := done 2 8 (bitSet 3 (.reg .C)) s

/-- SET 3,D (R305). -/
def execSet3D (s : State) : Result := done 2 8 (bitSet 3 (.reg .D)) s

/-- SET 3,E (R305). -/
def execSet3E (s : State) : Result := done 2 8 (bitSet 3 (.reg .E)) s

/-- SET 3,H (R305). -/
def execSet3H (s : State) : Result := done 2 8 (bitSet 3 (.reg .H)) s

/-- SET 3,L (R305). -/
def execSet3L (s : State) : Result := done 2 8 (bitSet 3 (.reg .L)) s

/-- SET 3,A (R305). -/
def execSet3A (s : State) : Result := done 2 8 (bitSet 3 (.reg .A)) s

/-- SET 4,B (R305). -/
def execSet4B (s : State) : Result := done 2 8 (bitSet 4 (.reg .B)) s

/-- SET 4,C (R305). -/
def execSet4C (s : State) : Result := done 2 8 (bitSet 4 (.reg .C)) s

/-- SET 4,D (R305). -/
def execSet4D (s : State) : Result := done 2 8 (bitSet 4 (.reg .D)) s

/-- SET 4,E (R305). -/
def execSet4E (s : State) : Result := done 2 8 (bitSet 4 (.reg .E)) s

/-- SET 4,H (R305). -/
def execSet4H (s : State) : Result := done 2 8 (bitSet 4 (.reg .H)) s

/-- SET 4,L (R305). -/
def execSet4L (s : State) : Result := done 2 8 (bitSet 4 (.reg .L)) s

/-- SET 4,A (R305). -/
def execSet4A (s : State) : Result := done 2 8 (bitSet 4 (.reg .A)) s

/-- SET 5,B (R305). -/
def execSet5B (s : State) : Result := done 2 8 (bitSet 5 (.reg .B)) s

/-- SET 5,C (R305). -/
def execSet5C (s : State) : Result := done 2 8 (bitSet 5 (.reg .C)) s

/-- SET 5,D (R305). -/
def execSet5D (s : State) : Result := done 2 8 (bitSet 5 (.reg .D)) s

/-- SET 5,E (R305). -/
def execSet5E (s : State) : Result := done 2 8 (bitSet 5 (.reg .E)) s

/-- SET 5,H (R305). -/
def execSet5H (s : State) : Result := done 2 8 (bitSet 5 (.reg .H)) s

/-- SET 5,L (R305). -/
def execSet5L (s : State) : Result := done 2 8 (bitSet 5 (.reg .L)) s

/-- SET 5,A (R305). -/
def execSet5A (s : State) : Result := done 2 8 (bitSet 5 (.reg .A)) s

/-- SET 6,B (R305). -/
def execSet6B (s : State) : Result := done 2 8 (bitSet 6 (.reg .B)) s

/-- SET 6,C (R305). -/
def execSet6C (s : State) : Result := done 2 8 (bitSet 6 (.reg .C)) s

/-- SET 6,D (R305). -/
def execSet6D (s : State) : Result := done 2 8 (bitSet 6 (.reg .D)) s

/-- SET 6,E (R305). -/
def execSet6E (s : State) : Result := done 2 8 (bitSet 6 (.reg .E)) s

/-- SET 6,H (R305). -/
def execSet6H (s : State) : Result := done 2 8 (bitSet 6 (.reg .H)) s

/-- SET 6,L (R305). -/
def execSet6L (s : State) : Result := done 2 8 (bitSet 6 (.reg .L)) s

/-- SET 6,A (R305). -/
def execSet6A (s : State) : Result := done 2 8 (bitSet 6 (.reg .A)) s

/-- SET 7,B (R305). -/
def execSet7B (s : State) : Result := done 2 8 (bitSet 7 (.reg .B)) s

/-- SET 7,C (R305). -/
def execSet7C (s : State) : Result := done 2 8 (bitSet 7 (.reg .C)) s

/-- SET 7,D (R305). -/
def execSet7D (s : State) : Result := done 2 8 (bitSet 7 (.reg .D)) s

/-- SET 7,E (R305). -/
def execSet7E (s : State) : Result := done 2 8 (bitSet 7 (.reg .E)) s

/-- SET 7,H (R305). -/
def execSet7H (s : State) : Result := done 2 8 (bitSet 7 (.reg .H)) s

/-- SET 7,L (R305). -/
def execSet7L (s : State) : Result := done 2 8 (bitSet 7 (.reg .L)) s

/-- SET 7,A (R305). -/
def execSet7A (s : State) : Result := done 2 8 (bitSet 7 (.reg .A)) s

/-- SET 0,(HL) (R306). -/
def execSet0AtHL (s : State) : Result := done 2 16 (bitSet 0 .atHL) s

/-- SET 1,(HL) (R306). -/
def execSet1AtHL (s : State) : Result := done 2 16 (bitSet 1 .atHL) s

/-- SET 2,(HL) (R306). -/
def execSet2AtHL (s : State) : Result := done 2 16 (bitSet 2 .atHL) s

/-- SET 3,(HL) (R306). -/
def execSet3AtHL (s : State) : Result := done 2 16 (bitSet 3 .atHL) s

/-- SET 4,(HL) (R306). -/
def execSet4AtHL (s : State) : Result := done 2 16 (bitSet 4 .atHL) s

/-- SET 5,(HL) (R306). -/
def execSet5AtHL (s : State) : Result := done 2 16 (bitSet 5 .atHL) s

/-- SET 6,(HL) (R306). -/
def execSet6AtHL (s : State) : Result := done 2 16 (bitSet 6 .atHL) s

/-- SET 7,(HL) (R306). -/
def execSet7AtHL (s : State) : Result := done 2 16 (bitSet 7 .atHL) s

end Sys2Proof.Machine
end

