-- ==== Sys2Proof/Machine/Control.lean ====
section
/-! DEFINITION. Control transfer (45_control.md R320 to R331). No instruction here writes a flag; `s.regs.pc` is the
address of the instruction's opcode byte (10_state.md R37). -/

namespace Sys2Proof.Machine

/-- `cond(cc)` (R320). -/
def State.cond (s : State) : Cond → Bool
  | .NZ => !s.flag .Z
  | .Z => s.flag .Z
  | .NC => !s.flag .C
  | .C => s.flag .C

/-- Run a transfer and its bonus when the condition is true; do nothing when it is false (R322, R325, R327, R329). -/
def whenTaken (cc : Cond) (bonus : Nat) (transfer : State → State) (s : State) : State :=
  if s.cond cc then (transfer s).extra bonus else s

/-- `PC <- addr` (R321). -/
def jump (addr : Word) (s : State) : State := s.jumpTo addr

/-- `PC <- R16[HL]` (R323). -/
def jumpHL (s : State) : State := s.jumpTo (s.r16 .HL)

/-- `PC <- PC + 2 + sext_16(n)` (R324). -/
def jumpRel (n : Byte) (s : State) : State := s.jumpTo (s.regs.pc + 2 + sext16 n)

/-- `push16(PC + 3); PC <- addr` (R326). -/
def call (addr : Word) (s : State) : State := (s.push16 (s.regs.pc + 3)).jumpTo addr

/-- `push16(PC + 1); PC <- t * 8` (R331). -/
def restart (target : Byte) (s : State) : State := (s.push16 (s.regs.pc + 1)).jumpTo (zext16 target)

/-- JP a16 (R321). -/
def execJpa16 (nn : Word) (s : State) : Result := done 3 16 (jump nn) s

/-- JP NZ,a16 (R322). -/
def execJpNZa16 (nn : Word) (s : State) : Result := done 3 12 (whenTaken .NZ 4 (jump nn)) s

/-- JP Z,a16 (R322). -/
def execJpZa16 (nn : Word) (s : State) : Result := done 3 12 (whenTaken .Z 4 (jump nn)) s

/-- JP NC,a16 (R322). -/
def execJpNCa16 (nn : Word) (s : State) : Result := done 3 12 (whenTaken .NC 4 (jump nn)) s

/-- JP C,a16 (R322). -/
def execJpCa16 (nn : Word) (s : State) : Result := done 3 12 (whenTaken .C 4 (jump nn)) s

/-- JP HL (R323). -/
def execJpHL (s : State) : Result := done 1 4 jumpHL s

/-- JR e8 (R324). -/
def execJre8 (n : Byte) (s : State) : Result := done 2 12 (jumpRel n) s

/-- JR NZ,e8 (R325). -/
def execJrNZe8 (n : Byte) (s : State) : Result := done 2 8 (whenTaken .NZ 4 (jumpRel n)) s

/-- JR Z,e8 (R325). -/
def execJrZe8 (n : Byte) (s : State) : Result := done 2 8 (whenTaken .Z 4 (jumpRel n)) s

/-- JR NC,e8 (R325). -/
def execJrNCe8 (n : Byte) (s : State) : Result := done 2 8 (whenTaken .NC 4 (jumpRel n)) s

/-- JR C,e8 (R325). -/
def execJrCe8 (n : Byte) (s : State) : Result := done 2 8 (whenTaken .C 4 (jumpRel n)) s

/-- CALL a16 (R326). -/
def execCalla16 (nn : Word) (s : State) : Result := done 3 24 (call nn) s

/-- CALL NZ,a16 (R327). -/
def execCallNZa16 (nn : Word) (s : State) : Result := done 3 12 (whenTaken .NZ 12 (call nn)) s

/-- CALL Z,a16 (R327). -/
def execCallZa16 (nn : Word) (s : State) : Result := done 3 12 (whenTaken .Z 12 (call nn)) s

/-- CALL NC,a16 (R327). -/
def execCallNCa16 (nn : Word) (s : State) : Result := done 3 12 (whenTaken .NC 12 (call nn)) s

/-- CALL C,a16 (R327). -/
def execCallCa16 (nn : Word) (s : State) : Result := done 3 12 (whenTaken .C 12 (call nn)) s

/-- RET (R328). -/
def execRet (s : State) : Result := done 1 16 returnSub s

/-- RET NZ (R329). -/
def execRetNZ (s : State) : Result := done 1 8 (whenTaken .NZ 12 returnSub) s

/-- RET Z (R329). -/
def execRetZ (s : State) : Result := done 1 8 (whenTaken .Z 12 returnSub) s

/-- RET NC (R329). -/
def execRetNC (s : State) : Result := done 1 8 (whenTaken .NC 12 returnSub) s

/-- RET C (R329). -/
def execRetC (s : State) : Result := done 1 8 (whenTaken .C 12 returnSub) s

/-- RETI (R330). -/
def execReti (s : State) : Result := done 1 16 returnFromInterrupt s

/-- RST 00H (R331). -/
def execRst00H (s : State) : Result := done 1 16 (restart 0x00) s

/-- RST 08H (R331). -/
def execRst08H (s : State) : Result := done 1 16 (restart 0x08) s

/-- RST 10H (R331). -/
def execRst10H (s : State) : Result := done 1 16 (restart 0x10) s

/-- RST 18H (R331). -/
def execRst18H (s : State) : Result := done 1 16 (restart 0x18) s

/-- RST 20H (R331). -/
def execRst20H (s : State) : Result := done 1 16 (restart 0x20) s

/-- RST 28H (R331). -/
def execRst28H (s : State) : Result := done 1 16 (restart 0x28) s

/-- RST 30H (R331). -/
def execRst30H (s : State) : Result := done 1 16 (restart 0x30) s

/-- RST 38H (R331). -/
def execRst38H (s : State) : Result := done 1 16 (restart 0x38) s

end Sys2Proof.Machine
end

