-- ==== Sys2Proof/Machine/Load16.lean ====
section
/-! DEFINITION. 16-bit loads and stack transfers (41_load16.md R180 to R186). -/

namespace Sys2Proof.Machine

/-- `R16[rr] <- v` for a fetched immediate (R180). -/
def loadPair (rr : Reg16) (v : Word) (s : State) : State := s.setR16 rr v

/-- `MemWrite(addr, 1, lo8(SP)); MemWrite(addr + 1, 1, hi8(SP))` (R181). -/
def storeSP (addr : Word) (s : State) : State := s.write16 addr (s.r16 .SP)

/-- `SP <- R16[HL]` (R182). -/
def loadSPHL (s : State) : State := s.setR16 .SP (s.r16 .HL)

/-- `R16[HL] <- SP + e8`, flags 0 0 H C of `spadd` (R183). -/
def loadHLSP (n : Byte) (s : State) : State :=
  let r := spAdd (s.r16 .SP) n
  (s.setR16 .HL r.1).setFlags false false r.2.1 r.2.2

/-- `push16(R16[qq])` (R184). -/
def pushPair (qq : Reg16) (s : State) : State := s.push16 (s.r16 qq)

/-- `v <- pop16(); R16[qq] <- v` (R185); for AF the low byte is masked with 0xF0 (R186). -/
def popPair (qq : Reg16) (s : State) : State :=
  let r := s.pop16
  r.2.setR16 qq r.1

/-- LD BC,d16 (R180). -/
def execLdBCd16 (nn : Word) (s : State) : Result := done 3 12 (loadPair .BC nn) s

/-- LD DE,d16 (R180). -/
def execLdDEd16 (nn : Word) (s : State) : Result := done 3 12 (loadPair .DE nn) s

/-- LD HL,d16 (R180). -/
def execLdHLd16 (nn : Word) (s : State) : Result := done 3 12 (loadPair .HL nn) s

/-- LD SP,d16 (R180). -/
def execLdSPd16 (nn : Word) (s : State) : Result := done 3 12 (loadPair .SP nn) s

/-- LD (a16),SP (R181). -/
def execLdAtA16SP (nn : Word) (s : State) : Result := done 3 20 (storeSP nn) s

/-- LD SP,HL (R182). -/
def execLdSPHL (s : State) : Result := done 1 8 loadSPHL s

/-- LD HL,SP+e8 (R183). -/
def execLdHLSPe8 (n : Byte) (s : State) : Result := done 2 12 (loadHLSP n) s

/-- PUSH BC (R184). -/
def execPushBC (s : State) : Result := done 1 16 (pushPair .BC) s

/-- PUSH DE (R184). -/
def execPushDE (s : State) : Result := done 1 16 (pushPair .DE) s

/-- PUSH HL (R184). -/
def execPushHL (s : State) : Result := done 1 16 (pushPair .HL) s

/-- PUSH AF (R184). -/
def execPushAF (s : State) : Result := done 1 16 (pushPair .AF) s

/-- POP BC (R185). -/
def execPopBC (s : State) : Result := done 1 12 (popPair .BC) s

/-- POP DE (R185). -/
def execPopDE (s : State) : Result := done 1 12 (popPair .DE) s

/-- POP HL (R185). -/
def execPopHL (s : State) : Result := done 1 12 (popPair .HL) s

/-- POP AF (R186). -/
def execPopAF (s : State) : Result := done 1 12 (popPair .AF) s

end Sys2Proof.Machine
end

