-- ==== Sys2Proof/Machine/Load8.lean ====
section
/-! DEFINITION. 8-bit loads (40_load8.md R140 to R158). No load writes a flag. -/

namespace Sys2Proof.Machine

/-- `R8[d] <- R8[r]` (R140). -/
def loadReg (d r : Reg8) (s : State) : State := s.setR8 d (s.r8 r)

/-- `R8[d] <- v` for a fetched immediate (R141). -/
def loadImm (d : Reg8) (v : Byte) (s : State) : State := s.setR8 d v

/-- `R8[d] <- MemRead(addr, 1)` (R142, R145, R146, R149, R151, R153). -/
def loadFrom (d : Reg8) (addr : Word) (s : State) : State :=
  let m := s.memRead addr
  m.2.setR8 d m.1

/-- `R8[d] <- MemRead(R16[HL], 1)`: the old HL is the address (R142). -/
def loadAtHL (d : Reg8) (s : State) : State := loadFrom d (s.r16 .HL) s

/-- `MemWrite(R16[HL], 1, R8[r])` (R143). -/
def storeAtHL (r : Reg8) (s : State) : State := s.memWrite (s.r16 .HL) (s.r8 r)

/-- `MemWrite(R16[HL], 1, v)` for a fetched immediate (R144). -/
def storeImmAtHL (v : Byte) (s : State) : State := s.memWrite (s.r16 .HL) v

/-- `MemWrite(addr, 1, A)` (R147, R148, R150, R152, R154). -/
def storeA (addr : Word) (s : State) : State := s.memWrite addr (s.r8 .A)

/-- `A <- MemRead(R16[rr], 1)` (R145, R146). -/
def loadAAtPair (rr : Reg16) (s : State) : State := loadFrom .A (s.r16 rr) s

/-- `MemWrite(R16[rr], 1, A)` (R147, R148). -/
def storeAAtPair (rr : Reg16) (s : State) : State := storeA (s.r16 rr) s

/-- `A <- MemRead(0xFF00 + R8[C], 1)` (R153). -/
def loadAAtC (s : State) : State := loadFrom .A (highPage (s.r8 .C)) s

/-- `MemWrite(0xFF00 + R8[C], 1, A)` (R154). -/
def storeAAtC (s : State) : State := storeA (highPage (s.r8 .C)) s

/-- Store A at HL, then `R16[HL] <- R16[HL] + step` (R155, R156). -/
def storeAThenStep (step : Word) (s : State) : State :=
  let t := storeA (s.r16 .HL) s
  t.setR16 .HL (t.r16 .HL + step)

/-- Load A from HL, then `R16[HL] <- R16[HL] + step` (R157, R158). -/
def loadAThenStep (step : Word) (s : State) : State :=
  let t := loadFrom .A (s.r16 .HL) s
  t.setR16 .HL (t.r16 .HL + step)

/-- LD B,B (R140). -/
def execLdBB (s : State) : Result := done 1 4 (loadReg .B .B) s

/-- LD B,C (R140). -/
def execLdBC (s : State) : Result := done 1 4 (loadReg .B .C) s

/-- LD B,D (R140). -/
def execLdBD (s : State) : Result := done 1 4 (loadReg .B .D) s

/-- LD B,E (R140). -/
def execLdBE (s : State) : Result := done 1 4 (loadReg .B .E) s

/-- LD B,H (R140). -/
def execLdBH (s : State) : Result := done 1 4 (loadReg .B .H) s

/-- LD B,L (R140). -/
def execLdBL (s : State) : Result := done 1 4 (loadReg .B .L) s

/-- LD B,A (R140). -/
def execLdBA (s : State) : Result := done 1 4 (loadReg .B .A) s

/-- LD C,B (R140). -/
def execLdCB (s : State) : Result := done 1 4 (loadReg .C .B) s

/-- LD C,C (R140). -/
def execLdCC (s : State) : Result := done 1 4 (loadReg .C .C) s

/-- LD C,D (R140). -/
def execLdCD (s : State) : Result := done 1 4 (loadReg .C .D) s

/-- LD C,E (R140). -/
def execLdCE (s : State) : Result := done 1 4 (loadReg .C .E) s

/-- LD C,H (R140). -/
def execLdCH (s : State) : Result := done 1 4 (loadReg .C .H) s

/-- LD C,L (R140). -/
def execLdCL (s : State) : Result := done 1 4 (loadReg .C .L) s

/-- LD C,A (R140). -/
def execLdCA (s : State) : Result := done 1 4 (loadReg .C .A) s

/-- LD D,B (R140). -/
def execLdDB (s : State) : Result := done 1 4 (loadReg .D .B) s

/-- LD D,C (R140). -/
def execLdDC (s : State) : Result := done 1 4 (loadReg .D .C) s

/-- LD D,D (R140). -/
def execLdDD (s : State) : Result := done 1 4 (loadReg .D .D) s

/-- LD D,E (R140). -/
def execLdDE (s : State) : Result := done 1 4 (loadReg .D .E) s

/-- LD D,H (R140). -/
def execLdDH (s : State) : Result := done 1 4 (loadReg .D .H) s

/-- LD D,L (R140). -/
def execLdDL (s : State) : Result := done 1 4 (loadReg .D .L) s

/-- LD D,A (R140). -/
def execLdDA (s : State) : Result := done 1 4 (loadReg .D .A) s

/-- LD E,B (R140). -/
def execLdEB (s : State) : Result := done 1 4 (loadReg .E .B) s

/-- LD E,C (R140). -/
def execLdEC (s : State) : Result := done 1 4 (loadReg .E .C) s

/-- LD E,D (R140). -/
def execLdED (s : State) : Result := done 1 4 (loadReg .E .D) s

/-- LD E,E (R140). -/
def execLdEE (s : State) : Result := done 1 4 (loadReg .E .E) s

/-- LD E,H (R140). -/
def execLdEH (s : State) : Result := done 1 4 (loadReg .E .H) s

/-- LD E,L (R140). -/
def execLdEL (s : State) : Result := done 1 4 (loadReg .E .L) s

/-- LD E,A (R140). -/
def execLdEA (s : State) : Result := done 1 4 (loadReg .E .A) s

/-- LD H,B (R140). -/
def execLdHB (s : State) : Result := done 1 4 (loadReg .H .B) s

/-- LD H,C (R140). -/
def execLdHC (s : State) : Result := done 1 4 (loadReg .H .C) s

/-- LD H,D (R140). -/
def execLdHD (s : State) : Result := done 1 4 (loadReg .H .D) s

/-- LD H,E (R140). -/
def execLdHE (s : State) : Result := done 1 4 (loadReg .H .E) s

/-- LD H,H (R140). -/
def execLdHH (s : State) : Result := done 1 4 (loadReg .H .H) s

/-- LD H,L (R140). -/
def execLdHL (s : State) : Result := done 1 4 (loadReg .H .L) s

/-- LD H,A (R140). -/
def execLdHA (s : State) : Result := done 1 4 (loadReg .H .A) s

/-- LD L,B (R140). -/
def execLdLB (s : State) : Result := done 1 4 (loadReg .L .B) s

/-- LD L,C (R140). -/
def execLdLC (s : State) : Result := done 1 4 (loadReg .L .C) s

/-- LD L,D (R140). -/
def execLdLD (s : State) : Result := done 1 4 (loadReg .L .D) s

/-- LD L,E (R140). -/
def execLdLE (s : State) : Result := done 1 4 (loadReg .L .E) s

/-- LD L,H (R140). -/
def execLdLH (s : State) : Result := done 1 4 (loadReg .L .H) s

/-- LD L,L (R140). -/
def execLdLL (s : State) : Result := done 1 4 (loadReg .L .L) s

/-- LD L,A (R140). -/
def execLdLA (s : State) : Result := done 1 4 (loadReg .L .A) s

/-- LD A,B (R140). -/
def execLdAB (s : State) : Result := done 1 4 (loadReg .A .B) s

/-- LD A,C (R140). -/
def execLdAC (s : State) : Result := done 1 4 (loadReg .A .C) s

/-- LD A,D (R140). -/
def execLdAD (s : State) : Result := done 1 4 (loadReg .A .D) s

/-- LD A,E (R140). -/
def execLdAE (s : State) : Result := done 1 4 (loadReg .A .E) s

/-- LD A,H (R140). -/
def execLdAH (s : State) : Result := done 1 4 (loadReg .A .H) s

/-- LD A,L (R140). -/
def execLdAL (s : State) : Result := done 1 4 (loadReg .A .L) s

/-- LD A,A (R140). -/
def execLdAA (s : State) : Result := done 1 4 (loadReg .A .A) s

/-- LD B,d8 (R141). -/
def execLdBd8 (n : Byte) (s : State) : Result := done 2 8 (loadImm .B n) s

/-- LD C,d8 (R141). -/
def execLdCd8 (n : Byte) (s : State) : Result := done 2 8 (loadImm .C n) s

/-- LD D,d8 (R141). -/
def execLdDd8 (n : Byte) (s : State) : Result := done 2 8 (loadImm .D n) s

/-- LD E,d8 (R141). -/
def execLdEd8 (n : Byte) (s : State) : Result := done 2 8 (loadImm .E n) s

/-- LD H,d8 (R141). -/
def execLdHd8 (n : Byte) (s : State) : Result := done 2 8 (loadImm .H n) s

/-- LD L,d8 (R141). -/
def execLdLd8 (n : Byte) (s : State) : Result := done 2 8 (loadImm .L n) s

/-- LD A,d8 (R141). -/
def execLdAd8 (n : Byte) (s : State) : Result := done 2 8 (loadImm .A n) s

/-- LD B,(HL) (R142). -/
def execLdBAtHL (s : State) : Result := done 1 8 (loadAtHL .B) s

/-- LD C,(HL) (R142). -/
def execLdCAtHL (s : State) : Result := done 1 8 (loadAtHL .C) s

/-- LD D,(HL) (R142). -/
def execLdDAtHL (s : State) : Result := done 1 8 (loadAtHL .D) s

/-- LD E,(HL) (R142). -/
def execLdEAtHL (s : State) : Result := done 1 8 (loadAtHL .E) s

/-- LD H,(HL) (R142). -/
def execLdHAtHL (s : State) : Result := done 1 8 (loadAtHL .H) s

/-- LD L,(HL) (R142). -/
def execLdLAtHL (s : State) : Result := done 1 8 (loadAtHL .L) s

/-- LD A,(HL) (R142). -/
def execLdAAtHL (s : State) : Result := done 1 8 (loadAtHL .A) s

/-- LD (HL),B (R143). -/
def execLdAtHLB (s : State) : Result := done 1 8 (storeAtHL .B) s

/-- LD (HL),C (R143). -/
def execLdAtHLC (s : State) : Result := done 1 8 (storeAtHL .C) s

/-- LD (HL),D (R143). -/
def execLdAtHLD (s : State) : Result := done 1 8 (storeAtHL .D) s

/-- LD (HL),E (R143). -/
def execLdAtHLE (s : State) : Result := done 1 8 (storeAtHL .E) s

/-- LD (HL),H (R143). -/
def execLdAtHLH (s : State) : Result := done 1 8 (storeAtHL .H) s

/-- LD (HL),L (R143). -/
def execLdAtHLL (s : State) : Result := done 1 8 (storeAtHL .L) s

/-- LD (HL),A (R143). -/
def execLdAtHLA (s : State) : Result := done 1 8 (storeAtHL .A) s

/-- LD (HL),d8 (R144). -/
def execLdAtHLd8 (n : Byte) (s : State) : Result := done 2 12 (storeImmAtHL n) s

/-- LD A,(BC) (R145). -/
def execLdAAtBC (s : State) : Result := done 1 8 (loadAAtPair .BC) s

/-- LD A,(DE) (R146). -/
def execLdAAtDE (s : State) : Result := done 1 8 (loadAAtPair .DE) s

/-- LD (BC),A (R147). -/
def execLdAtBCA (s : State) : Result := done 1 8 (storeAAtPair .BC) s

/-- LD (DE),A (R148). -/
def execLdAtDEA (s : State) : Result := done 1 8 (storeAAtPair .DE) s

/-- LD A,(a16) (R149). -/
def execLdAAtA16 (nn : Word) (s : State) : Result := done 3 16 (loadFrom .A nn) s

/-- LD (a16),A (R150). -/
def execLdAtA16A (nn : Word) (s : State) : Result := done 3 16 (storeA nn) s

/-- LDH A,(a8) (R151). -/
def execLdhAAtA8 (n : Byte) (s : State) : Result := done 2 12 (loadFrom .A (highPage n)) s

/-- LDH (a8),A (R152). -/
def execLdhAtA8A (n : Byte) (s : State) : Result := done 2 12 (storeA (highPage n)) s

/-- LD A,(C) (R153). -/
def execLdAAtC (s : State) : Result := done 1 8 loadAAtC s

/-- LD (C),A (R154). -/
def execLdAtCA (s : State) : Result := done 1 8 storeAAtC s

/-- LD (HL+),A (R155). -/
def execLdAtHLIncA (s : State) : Result := done 1 8 (storeAThenStep 1) s

/-- LD (HL-),A (R156). -/
def execLdAtHLDecA (s : State) : Result := done 1 8 (storeAThenStep (-1)) s

/-- LD A,(HL+) (R157). -/
def execLdAAtHLInc (s : State) : Result := done 1 8 (loadAThenStep 1) s

/-- LD A,(HL-) (R158). -/
def execLdAAtHLDec (s : State) : Result := done 1 8 (loadAThenStep (-1)) s

end Sys2Proof.Machine
end

