-- ==== Sys2Proof/Machine/System.lean ====
section
/-! DEFINITION. System and control instructions and the illegal opcodes (46_system.md R360 to R366). -/

namespace Sys2Proof.Machine

/-- Nothing (R360). -/
def noOperation (s : State) : State := s

/-- `Halted <- true` (R361). -/
def enterHalt (s : State) : State := { s with int.halted := true }

/-- `STOP_BYTES` as a number (R362). -/
def stopLength (p : Params) : Nat :=
  match p.stopBytes with
  | .one => 1
  | .two => 2

/-- `Stopped <- true; bc <- STOP_BYTES` (R362): the byte after the opcode is not read. -/
def enterStop (s : State) : State := { s with int.stopped := true, scratch.bc := stopLength s.params }

/-- `IME <- false`, eiPending unchanged (R363). -/
def disableInterrupts (s : State) : State := { s with int.ime := false }

/-- `eiPending <- true`, IME unchanged (R364). -/
def enableInterrupts (s : State) : State := { s with int.eiPending := true }

/-- NOP (R360). -/
def execNop (s : State) : Result := done 1 4 noOperation s

/-- HALT (R361). -/
def execHalt (s : State) : Result := done 1 4 enterHalt s

/-- STOP (R362). -/
def execStop (s : State) : Result := done 1 4 enterStop s

/-- DI (R363). -/
def execDi (s : State) : Result := done 1 4 disableInterrupts s

/-- EI (R364). -/
def execEi (s : State) : Result := done 1 4 enableInterrupts s

/-- 0xD3, an illegal opcode (R366). -/
def execIllegalD3 (s : State) : Result := .next (s.raiseIllegal 0xD3)

/-- 0xDB, an illegal opcode (R366). -/
def execIllegalDB (s : State) : Result := .next (s.raiseIllegal 0xDB)

/-- 0xDD, an illegal opcode (R366). -/
def execIllegalDD (s : State) : Result := .next (s.raiseIllegal 0xDD)

/-- 0xE3, an illegal opcode (R366). -/
def execIllegalE3 (s : State) : Result := .next (s.raiseIllegal 0xE3)

/-- 0xE4, an illegal opcode (R366). -/
def execIllegalE4 (s : State) : Result := .next (s.raiseIllegal 0xE4)

/-- 0xEB, an illegal opcode (R366). -/
def execIllegalEB (s : State) : Result := .next (s.raiseIllegal 0xEB)

/-- 0xEC, an illegal opcode (R366). -/
def execIllegalEC (s : State) : Result := .next (s.raiseIllegal 0xEC)

/-- 0xED, an illegal opcode (R366). -/
def execIllegalED (s : State) : Result := .next (s.raiseIllegal 0xED)

/-- 0xF4, an illegal opcode (R366). -/
def execIllegalF4 (s : State) : Result := .next (s.raiseIllegal 0xF4)

/-- 0xFC, an illegal opcode (R366). -/
def execIllegalFC (s : State) : Result := .next (s.raiseIllegal 0xFC)

/-- 0xFD, an illegal opcode (R366). -/
def execIllegalFD (s : State) : Result := .next (s.raiseIllegal 0xFD)

end Sys2Proof.Machine
end

