-- ==== Sys2Proof/Syntax.lean ====
section
/-! DEFINITION. The instructions: one constructor per row of opcode_table.json, the rows with an operand first (Lean's
compiled code allows a constructor with fields no number above 243), each with its assembler form and its fixed bits
(30_encoding.md R113, R114). `n` is an 8-bit immediate (d8, e8 or a8), `nn` a 16-bit
one (d16 or a16) (00_scope.md R20). -/

namespace Sys2Proof

/-- The 512 rows of the opcode table. -/
inductive Instr where
  /-- LD BC,d16: 00000001. -/
  | ldBCd16 (nn : Word)
  /-- LD B,d8: 00000110. -/
  | ldBd8 (n : Byte)
  /-- LD (a16),SP: 00001000. -/
  | ldAtA16SP (nn : Word)
  /-- LD C,d8: 00001110. -/
  | ldCd8 (n : Byte)
  /-- LD DE,d16: 00010001. -/
  | ldDEd16 (nn : Word)
  /-- LD D,d8: 00010110. -/
  | ldDd8 (n : Byte)
  /-- JR e8: 00011000. -/
  | jre8 (n : Byte)
  /-- LD E,d8: 00011110. -/
  | ldEd8 (n : Byte)
  /-- JR NZ,e8: 00100000. -/
  | jrNZe8 (n : Byte)
  /-- LD HL,d16: 00100001. -/
  | ldHLd16 (nn : Word)
  /-- LD H,d8: 00100110. -/
  | ldHd8 (n : Byte)
  /-- JR Z,e8: 00101000. -/
  | jrZe8 (n : Byte)
  /-- LD L,d8: 00101110. -/
  | ldLd8 (n : Byte)
  /-- JR NC,e8: 00110000. -/
  | jrNCe8 (n : Byte)
  /-- LD SP,d16: 00110001. -/
  | ldSPd16 (nn : Word)
  /-- LD (HL),d8: 00110110. -/
  | ldAtHLd8 (n : Byte)
  /-- JR C,e8: 00111000. -/
  | jrCe8 (n : Byte)
  /-- LD A,d8: 00111110. -/
  | ldAd8 (n : Byte)
  /-- JP NZ,a16: 11000010. -/
  | jpNZa16 (nn : Word)
  /-- JP a16: 11000011. -/
  | jpa16 (nn : Word)
  /-- CALL NZ,a16: 11000100. -/
  | callNZa16 (nn : Word)
  /-- ADD A,d8: 11000110. -/
  | addAd8 (n : Byte)
  /-- JP Z,a16: 11001010. -/
  | jpZa16 (nn : Word)
  /-- PREFIX CB: 11001011. -/
  | prefixCB (sub : Byte)
  /-- CALL Z,a16: 11001100. -/
  | callZa16 (nn : Word)
  /-- CALL a16: 11001101. -/
  | calla16 (nn : Word)
  /-- ADC A,d8: 11001110. -/
  | adcAd8 (n : Byte)
  /-- JP NC,a16: 11010010. -/
  | jpNCa16 (nn : Word)
  /-- CALL NC,a16: 11010100. -/
  | callNCa16 (nn : Word)
  /-- SUB d8: 11010110. -/
  | subd8 (n : Byte)
  /-- JP C,a16: 11011010. -/
  | jpCa16 (nn : Word)
  /-- CALL C,a16: 11011100. -/
  | callCa16 (nn : Word)
  /-- SBC A,d8: 11011110. -/
  | sbcAd8 (n : Byte)
  /-- LDH (a8),A: 11100000. -/
  | ldhAtA8A (n : Byte)
  /-- AND d8: 11100110. -/
  | andd8 (n : Byte)
  /-- ADD SP,e8: 11101000. -/
  | addSPe8 (n : Byte)
  /-- LD (a16),A: 11101010. -/
  | ldAtA16A (nn : Word)
  /-- XOR d8: 11101110. -/
  | xord8 (n : Byte)
  /-- LDH A,(a8): 11110000. -/
  | ldhAAtA8 (n : Byte)
  /-- OR d8: 11110110. -/
  | ord8 (n : Byte)
  /-- LD HL,SP+e8: 11111000. -/
  | ldHLSPe8 (n : Byte)
  /-- LD A,(a16): 11111010. -/
  | ldAAtA16 (nn : Word)
  /-- CP d8: 11111110. -/
  | cpd8 (n : Byte)
  /-- NOP: 00000000. -/
  | nop
  /-- LD (BC),A: 00000010. -/
  | ldAtBCA
  /-- INC BC: 00000011. -/
  | incBC
  /-- INC B: 00000100. -/
  | incB
  /-- DEC B: 00000101. -/
  | decB
  /-- RLCA: 00000111. -/
  | rlca
  /-- ADD HL,BC: 00001001. -/
  | addHLBC
  /-- LD A,(BC): 00001010. -/
  | ldAAtBC
  /-- DEC BC: 00001011. -/
  | decBC
  /-- INC C: 00001100. -/
  | incC
  /-- DEC C: 00001101. -/
  | decC
  /-- RRCA: 00001111. -/
  | rrca
  /-- STOP: 00010000. -/
  | stop
  /-- LD (DE),A: 00010010. -/
  | ldAtDEA
  /-- INC DE: 00010011. -/
  | incDE
  /-- INC D: 00010100. -/
  | incD
  /-- DEC D: 00010101. -/
  | decD
  /-- RLA: 00010111. -/
  | rla
  /-- ADD HL,DE: 00011001. -/
  | addHLDE
  /-- LD A,(DE): 00011010. -/
  | ldAAtDE
  /-- DEC DE: 00011011. -/
  | decDE
  /-- INC E: 00011100. -/
  | incE
  /-- DEC E: 00011101. -/
  | decE
  /-- RRA: 00011111. -/
  | rra
  /-- LD (HL+),A: 00100010. -/
  | ldAtHLIncA
  /-- INC HL: 00100011. -/
  | incHL
  /-- INC H: 00100100. -/
  | incH
  /-- DEC H: 00100101. -/
  | decH
  /-- DAA: 00100111. -/
  | daa
  /-- ADD HL,HL: 00101001. -/
  | addHLHL
  /-- LD A,(HL+): 00101010. -/
  | ldAAtHLInc
  /-- DEC HL: 00101011. -/
  | decHL
  /-- INC L: 00101100. -/
  | incL
  /-- DEC L: 00101101. -/
  | decL
  /-- CPL: 00101111. -/
  | cpl
  /-- LD (HL-),A: 00110010. -/
  | ldAtHLDecA
  /-- INC SP: 00110011. -/
  | incSP
  /-- INC (HL): 00110100. -/
  | incAtHL
  /-- DEC (HL): 00110101. -/
  | decAtHL
  /-- SCF: 00110111. -/
  | scf
  /-- ADD HL,SP: 00111001. -/
  | addHLSP
  /-- LD A,(HL-): 00111010. -/
  | ldAAtHLDec
  /-- DEC SP: 00111011. -/
  | decSP
  /-- INC A: 00111100. -/
  | incA
  /-- DEC A: 00111101. -/
  | decA
  /-- CCF: 00111111. -/
  | ccf
  /-- LD B,B: 01000000. -/
  | ldBB
  /-- LD B,C: 01000001. -/
  | ldBC
  /-- LD B,D: 01000010. -/
  | ldBD
  /-- LD B,E: 01000011. -/
  | ldBE
  /-- LD B,H: 01000100. -/
  | ldBH
  /-- LD B,L: 01000101. -/
  | ldBL
  /-- LD B,(HL): 01000110. -/
  | ldBAtHL
  /-- LD B,A: 01000111. -/
  | ldBA
  /-- LD C,B: 01001000. -/
  | ldCB
  /-- LD C,C: 01001001. -/
  | ldCC
  /-- LD C,D: 01001010. -/
  | ldCD
  /-- LD C,E: 01001011. -/
  | ldCE
  /-- LD C,H: 01001100. -/
  | ldCH
  /-- LD C,L: 01001101. -/
  | ldCL
  /-- LD C,(HL): 01001110. -/
  | ldCAtHL
  /-- LD C,A: 01001111. -/
  | ldCA
  /-- LD D,B: 01010000. -/
  | ldDB
  /-- LD D,C: 01010001. -/
  | ldDC
  /-- LD D,D: 01010010. -/
  | ldDD
  /-- LD D,E: 01010011. -/
  | ldDE
  /-- LD D,H: 01010100. -/
  | ldDH
  /-- LD D,L: 01010101. -/
  | ldDL
  /-- LD D,(HL): 01010110. -/
  | ldDAtHL
  /-- LD D,A: 01010111. -/
  | ldDA
  /-- LD E,B: 01011000. -/
  | ldEB
  /-- LD E,C: 01011001. -/
  | ldEC
  /-- LD E,D: 01011010. -/
  | ldED
  /-- LD E,E: 01011011. -/
  | ldEE
  /-- LD E,H: 01011100. -/
  | ldEH
  /-- LD E,L: 01011101. -/
  | ldEL
  /-- LD E,(HL): 01011110. -/
  | ldEAtHL
  /-- LD E,A: 01011111. -/
  | ldEA
  /-- LD H,B: 01100000. -/
  | ldHB
  /-- LD H,C: 01100001. -/
  | ldHC
  /-- LD H,D: 01100010. -/
  | ldHD
  /-- LD H,E: 01100011. -/
  | ldHE
  /-- LD H,H: 01100100. -/
  | ldHH
  /-- LD H,L: 01100101. -/
  | ldHL
  /-- LD H,(HL): 01100110. -/
  | ldHAtHL
  /-- LD H,A: 01100111. -/
  | ldHA
  /-- LD L,B: 01101000. -/
  | ldLB
  /-- LD L,C: 01101001. -/
  | ldLC
  /-- LD L,D: 01101010. -/
  | ldLD
  /-- LD L,E: 01101011. -/
  | ldLE
  /-- LD L,H: 01101100. -/
  | ldLH
  /-- LD L,L: 01101101. -/
  | ldLL
  /-- LD L,(HL): 01101110. -/
  | ldLAtHL
  /-- LD L,A: 01101111. -/
  | ldLA
  /-- LD (HL),B: 01110000. -/
  | ldAtHLB
  /-- LD (HL),C: 01110001. -/
  | ldAtHLC
  /-- LD (HL),D: 01110010. -/
  | ldAtHLD
  /-- LD (HL),E: 01110011. -/
  | ldAtHLE
  /-- LD (HL),H: 01110100. -/
  | ldAtHLH
  /-- LD (HL),L: 01110101. -/
  | ldAtHLL
  /-- HALT: 01110110. -/
  | halt
  /-- LD (HL),A: 01110111. -/
  | ldAtHLA
  /-- LD A,B: 01111000. -/
  | ldAB
  /-- LD A,C: 01111001. -/
  | ldAC
  /-- LD A,D: 01111010. -/
  | ldAD
  /-- LD A,E: 01111011. -/
  | ldAE
  /-- LD A,H: 01111100. -/
  | ldAH
  /-- LD A,L: 01111101. -/
  | ldAL
  /-- LD A,(HL): 01111110. -/
  | ldAAtHL
  /-- LD A,A: 01111111. -/
  | ldAA
  /-- ADD A,B: 10000000. -/
  | addAB
  /-- ADD A,C: 10000001. -/
  | addAC
  /-- ADD A,D: 10000010. -/
  | addAD
  /-- ADD A,E: 10000011. -/
  | addAE
  /-- ADD A,H: 10000100. -/
  | addAH
  /-- ADD A,L: 10000101. -/
  | addAL
  /-- ADD A,(HL): 10000110. -/
  | addAAtHL
  /-- ADD A,A: 10000111. -/
  | addAA
  /-- ADC A,B: 10001000. -/
  | adcAB
  /-- ADC A,C: 10001001. -/
  | adcAC
  /-- ADC A,D: 10001010. -/
  | adcAD
  /-- ADC A,E: 10001011. -/
  | adcAE
  /-- ADC A,H: 10001100. -/
  | adcAH
  /-- ADC A,L: 10001101. -/
  | adcAL
  /-- ADC A,(HL): 10001110. -/
  | adcAAtHL
  /-- ADC A,A: 10001111. -/
  | adcAA
  /-- SUB B: 10010000. -/
  | subB
  /-- SUB C: 10010001. -/
  | subC
  /-- SUB D: 10010010. -/
  | subD
  /-- SUB E: 10010011. -/
  | subE
  /-- SUB H: 10010100. -/
  | subH
  /-- SUB L: 10010101. -/
  | subL
  /-- SUB (HL): 10010110. -/
  | subAtHL
  /-- SUB A: 10010111. -/
  | subA
  /-- SBC A,B: 10011000. -/
  | sbcAB
  /-- SBC A,C: 10011001. -/
  | sbcAC
  /-- SBC A,D: 10011010. -/
  | sbcAD
  /-- SBC A,E: 10011011. -/
  | sbcAE
  /-- SBC A,H: 10011100. -/
  | sbcAH
  /-- SBC A,L: 10011101. -/
  | sbcAL
  /-- SBC A,(HL): 10011110. -/
  | sbcAAtHL
  /-- SBC A,A: 10011111. -/
  | sbcAA
  /-- AND B: 10100000. -/
  | andB
  /-- AND C: 10100001. -/
  | andC
  /-- AND D: 10100010. -/
  | andD
  /-- AND E: 10100011. -/
  | andE
  /-- AND H: 10100100. -/
  | andH
  /-- AND L: 10100101. -/
  | andL
  /-- AND (HL): 10100110. -/
  | andAtHL
  /-- AND A: 10100111. -/
  | andA
  /-- XOR B: 10101000. -/
  | xorB
  /-- XOR C: 10101001. -/
  | xorC
  /-- XOR D: 10101010. -/
  | xorD
  /-- XOR E: 10101011. -/
  | xorE
  /-- XOR H: 10101100. -/
  | xorH
  /-- XOR L: 10101101. -/
  | xorL
  /-- XOR (HL): 10101110. -/
  | xorAtHL
  /-- XOR A: 10101111. -/
  | xorA
  /-- OR B: 10110000. -/
  | orB
  /-- OR C: 10110001. -/
  | orC
  /-- OR D: 10110010. -/
  | orD
  /-- OR E: 10110011. -/
  | orE
  /-- OR H: 10110100. -/
  | orH
  /-- OR L: 10110101. -/
  | orL
  /-- OR (HL): 10110110. -/
  | orAtHL
  /-- OR A: 10110111. -/
  | orA
  /-- CP B: 10111000. -/
  | cpB
  /-- CP C: 10111001. -/
  | cpC
  /-- CP D: 10111010. -/
  | cpD
  /-- CP E: 10111011. -/
  | cpE
  /-- CP H: 10111100. -/
  | cpH
  /-- CP L: 10111101. -/
  | cpL
  /-- CP (HL): 10111110. -/
  | cpAtHL
  /-- CP A: 10111111. -/
  | cpA
  /-- RET NZ: 11000000. -/
  | retNZ
  /-- POP BC: 11000001. -/
  | popBC
  /-- PUSH BC: 11000101. -/
  | pushBC
  /-- RST 00H: 11000111. -/
  | rst00H
  /-- RET Z: 11001000. -/
  | retZ
  /-- RET: 11001001. -/
  | ret
  /-- RST 08H: 11001111. -/
  | rst08H
  /-- RET NC: 11010000. -/
  | retNC
  /-- POP DE: 11010001. -/
  | popDE
  /-- illegal opcode: 11010011. -/
  | illegalD3
  /-- PUSH DE: 11010101. -/
  | pushDE
  /-- RST 10H: 11010111. -/
  | rst10H
  /-- RET C: 11011000. -/
  | retC
  /-- RETI: 11011001. -/
  | reti
  /-- illegal opcode: 11011011. -/
  | illegalDB
  /-- illegal opcode: 11011101. -/
  | illegalDD
  /-- RST 18H: 11011111. -/
  | rst18H
  /-- POP HL: 11100001. -/
  | popHL
  /-- LD (C),A: 11100010. -/
  | ldAtCA
  /-- illegal opcode: 11100011. -/
  | illegalE3
  /-- illegal opcode: 11100100. -/
  | illegalE4
  /-- PUSH HL: 11100101. -/
  | pushHL
  /-- RST 20H: 11100111. -/
  | rst20H
  /-- JP HL: 11101001. -/
  | jpHL
  /-- illegal opcode: 11101011. -/
  | illegalEB
  /-- illegal opcode: 11101100. -/
  | illegalEC
  /-- illegal opcode: 11101101. -/
  | illegalED
  /-- RST 28H: 11101111. -/
  | rst28H
  /-- POP AF: 11110001. -/
  | popAF
  /-- LD A,(C): 11110010. -/
  | ldAAtC
  /-- DI: 11110011. -/
  | di
  /-- illegal opcode: 11110100. -/
  | illegalF4
  /-- PUSH AF: 11110101. -/
  | pushAF
  /-- RST 30H: 11110111. -/
  | rst30H
  /-- LD SP,HL: 11111001. -/
  | ldSPHL
  /-- EI: 11111011. -/
  | ei
  /-- illegal opcode: 11111100. -/
  | illegalFC
  /-- illegal opcode: 11111101. -/
  | illegalFD
  /-- RST 38H: 11111111. -/
  | rst38H
  /-- RLC B: 11001011 00000000. -/
  | rlcB
  /-- RLC C: 11001011 00000001. -/
  | rlcC
  /-- RLC D: 11001011 00000010. -/
  | rlcD
  /-- RLC E: 11001011 00000011. -/
  | rlcE
  /-- RLC H: 11001011 00000100. -/
  | rlcH
  /-- RLC L: 11001011 00000101. -/
  | rlcL
  /-- RLC (HL): 11001011 00000110. -/
  | rlcAtHL
  /-- RLC A: 11001011 00000111. -/
  | rlcA
  /-- RRC B: 11001011 00001000. -/
  | rrcB
  /-- RRC C: 11001011 00001001. -/
  | rrcC
  /-- RRC D: 11001011 00001010. -/
  | rrcD
  /-- RRC E: 11001011 00001011. -/
  | rrcE
  /-- RRC H: 11001011 00001100. -/
  | rrcH
  /-- RRC L: 11001011 00001101. -/
  | rrcL
  /-- RRC (HL): 11001011 00001110. -/
  | rrcAtHL
  /-- RRC A: 11001011 00001111. -/
  | rrcA
  /-- RL B: 11001011 00010000. -/
  | rlB
  /-- RL C: 11001011 00010001. -/
  | rlC
  /-- RL D: 11001011 00010010. -/
  | rlD
  /-- RL E: 11001011 00010011. -/
  | rlE
  /-- RL H: 11001011 00010100. -/
  | rlH
  /-- RL L: 11001011 00010101. -/
  | rlL
  /-- RL (HL): 11001011 00010110. -/
  | rlAtHL
  /-- RL A: 11001011 00010111. -/
  | rlA
  /-- RR B: 11001011 00011000. -/
  | rrB
  /-- RR C: 11001011 00011001. -/
  | rrC
  /-- RR D: 11001011 00011010. -/
  | rrD
  /-- RR E: 11001011 00011011. -/
  | rrE
  /-- RR H: 11001011 00011100. -/
  | rrH
  /-- RR L: 11001011 00011101. -/
  | rrL
  /-- RR (HL): 11001011 00011110. -/
  | rrAtHL
  /-- RR A: 11001011 00011111. -/
  | rrA
  /-- SLA B: 11001011 00100000. -/
  | slaB
  /-- SLA C: 11001011 00100001. -/
  | slaC
  /-- SLA D: 11001011 00100010. -/
  | slaD
  /-- SLA E: 11001011 00100011. -/
  | slaE
  /-- SLA H: 11001011 00100100. -/
  | slaH
  /-- SLA L: 11001011 00100101. -/
  | slaL
  /-- SLA (HL): 11001011 00100110. -/
  | slaAtHL
  /-- SLA A: 11001011 00100111. -/
  | slaA
  /-- SRA B: 11001011 00101000. -/
  | sraB
  /-- SRA C: 11001011 00101001. -/
  | sraC
  /-- SRA D: 11001011 00101010. -/
  | sraD
  /-- SRA E: 11001011 00101011. -/
  | sraE
  /-- SRA H: 11001011 00101100. -/
  | sraH
  /-- SRA L: 11001011 00101101. -/
  | sraL
  /-- SRA (HL): 11001011 00101110. -/
  | sraAtHL
  /-- SRA A: 11001011 00101111. -/
  | sraA
  /-- SWAP B: 11001011 00110000. -/
  | swapB
  /-- SWAP C: 11001011 00110001. -/
  | swapC
  /-- SWAP D: 11001011 00110010. -/
  | swapD
  /-- SWAP E: 11001011 00110011. -/
  | swapE
  /-- SWAP H: 11001011 00110100. -/
  | swapH
  /-- SWAP L: 11001011 00110101. -/
  | swapL
  /-- SWAP (HL): 11001011 00110110. -/
  | swapAtHL
  /-- SWAP A: 11001011 00110111. -/
  | swapA
  /-- SRL B: 11001011 00111000. -/
  | srlB
  /-- SRL C: 11001011 00111001. -/
  | srlC
  /-- SRL D: 11001011 00111010. -/
  | srlD
  /-- SRL E: 11001011 00111011. -/
  | srlE
  /-- SRL H: 11001011 00111100. -/
  | srlH
  /-- SRL L: 11001011 00111101. -/
  | srlL
  /-- SRL (HL): 11001011 00111110. -/
  | srlAtHL
  /-- SRL A: 11001011 00111111. -/
  | srlA
  /-- BIT 0,B: 11001011 01000000. -/
  | bit0B
  /-- BIT 0,C: 11001011 01000001. -/
  | bit0C
  /-- BIT 0,D: 11001011 01000010. -/
  | bit0D
  /-- BIT 0,E: 11001011 01000011. -/
  | bit0E
  /-- BIT 0,H: 11001011 01000100. -/
  | bit0H
  /-- BIT 0,L: 11001011 01000101. -/
  | bit0L
  /-- BIT 0,(HL): 11001011 01000110. -/
  | bit0AtHL
  /-- BIT 0,A: 11001011 01000111. -/
  | bit0A
  /-- BIT 1,B: 11001011 01001000. -/
  | bit1B
  /-- BIT 1,C: 11001011 01001001. -/
  | bit1C
  /-- BIT 1,D: 11001011 01001010. -/
  | bit1D
  /-- BIT 1,E: 11001011 01001011. -/
  | bit1E
  /-- BIT 1,H: 11001011 01001100. -/
  | bit1H
  /-- BIT 1,L: 11001011 01001101. -/
  | bit1L
  /-- BIT 1,(HL): 11001011 01001110. -/
  | bit1AtHL
  /-- BIT 1,A: 11001011 01001111. -/
  | bit1A
  /-- BIT 2,B: 11001011 01010000. -/
  | bit2B
  /-- BIT 2,C: 11001011 01010001. -/
  | bit2C
  /-- BIT 2,D: 11001011 01010010. -/
  | bit2D
  /-- BIT 2,E: 11001011 01010011. -/
  | bit2E
  /-- BIT 2,H: 11001011 01010100. -/
  | bit2H
  /-- BIT 2,L: 11001011 01010101. -/
  | bit2L
  /-- BIT 2,(HL): 11001011 01010110. -/
  | bit2AtHL
  /-- BIT 2,A: 11001011 01010111. -/
  | bit2A
  /-- BIT 3,B: 11001011 01011000. -/
  | bit3B
  /-- BIT 3,C: 11001011 01011001. -/
  | bit3C
  /-- BIT 3,D: 11001011 01011010. -/
  | bit3D
  /-- BIT 3,E: 11001011 01011011. -/
  | bit3E
  /-- BIT 3,H: 11001011 01011100. -/
  | bit3H
  /-- BIT 3,L: 11001011 01011101. -/
  | bit3L
  /-- BIT 3,(HL): 11001011 01011110. -/
  | bit3AtHL
  /-- BIT 3,A: 11001011 01011111. -/
  | bit3A
  /-- BIT 4,B: 11001011 01100000. -/
  | bit4B
  /-- BIT 4,C: 11001011 01100001. -/
  | bit4C
  /-- BIT 4,D: 11001011 01100010. -/
  | bit4D
  /-- BIT 4,E: 11001011 01100011. -/
  | bit4E
  /-- BIT 4,H: 11001011 01100100. -/
  | bit4H
  /-- BIT 4,L: 11001011 01100101. -/
  | bit4L
  /-- BIT 4,(HL): 11001011 01100110. -/
  | bit4AtHL
  /-- BIT 4,A: 11001011 01100111. -/
  | bit4A
  /-- BIT 5,B: 11001011 01101000. -/
  | bit5B
  /-- BIT 5,C: 11001011 01101001. -/
  | bit5C
  /-- BIT 5,D: 11001011 01101010. -/
  | bit5D
  /-- BIT 5,E: 11001011 01101011. -/
  | bit5E
  /-- BIT 5,H: 11001011 01101100. -/
  | bit5H
  /-- BIT 5,L: 11001011 01101101. -/
  | bit5L
  /-- BIT 5,(HL): 11001011 01101110. -/
  | bit5AtHL
  /-- BIT 5,A: 11001011 01101111. -/
  | bit5A
  /-- BIT 6,B: 11001011 01110000. -/
  | bit6B
  /-- BIT 6,C: 11001011 01110001. -/
  | bit6C
  /-- BIT 6,D: 11001011 01110010. -/
  | bit6D
  /-- BIT 6,E: 11001011 01110011. -/
  | bit6E
  /-- BIT 6,H: 11001011 01110100. -/
  | bit6H
  /-- BIT 6,L: 11001011 01110101. -/
  | bit6L
  /-- BIT 6,(HL): 11001011 01110110. -/
  | bit6AtHL
  /-- BIT 6,A: 11001011 01110111. -/
  | bit6A
  /-- BIT 7,B: 11001011 01111000. -/
  | bit7B
  /-- BIT 7,C: 11001011 01111001. -/
  | bit7C
  /-- BIT 7,D: 11001011 01111010. -/
  | bit7D
  /-- BIT 7,E: 11001011 01111011. -/
  | bit7E
  /-- BIT 7,H: 11001011 01111100. -/
  | bit7H
  /-- BIT 7,L: 11001011 01111101. -/
  | bit7L
  /-- BIT 7,(HL): 11001011 01111110. -/
  | bit7AtHL
  /-- BIT 7,A: 11001011 01111111. -/
  | bit7A
  /-- RES 0,B: 11001011 10000000. -/
  | res0B
  /-- RES 0,C: 11001011 10000001. -/
  | res0C
  /-- RES 0,D: 11001011 10000010. -/
  | res0D
  /-- RES 0,E: 11001011 10000011. -/
  | res0E
  /-- RES 0,H: 11001011 10000100. -/
  | res0H
  /-- RES 0,L: 11001011 10000101. -/
  | res0L
  /-- RES 0,(HL): 11001011 10000110. -/
  | res0AtHL
  /-- RES 0,A: 11001011 10000111. -/
  | res0A
  /-- RES 1,B: 11001011 10001000. -/
  | res1B
  /-- RES 1,C: 11001011 10001001. -/
  | res1C
  /-- RES 1,D: 11001011 10001010. -/
  | res1D
  /-- RES 1,E: 11001011 10001011. -/
  | res1E
  /-- RES 1,H: 11001011 10001100. -/
  | res1H
  /-- RES 1,L: 11001011 10001101. -/
  | res1L
  /-- RES 1,(HL): 11001011 10001110. -/
  | res1AtHL
  /-- RES 1,A: 11001011 10001111. -/
  | res1A
  /-- RES 2,B: 11001011 10010000. -/
  | res2B
  /-- RES 2,C: 11001011 10010001. -/
  | res2C
  /-- RES 2,D: 11001011 10010010. -/
  | res2D
  /-- RES 2,E: 11001011 10010011. -/
  | res2E
  /-- RES 2,H: 11001011 10010100. -/
  | res2H
  /-- RES 2,L: 11001011 10010101. -/
  | res2L
  /-- RES 2,(HL): 11001011 10010110. -/
  | res2AtHL
  /-- RES 2,A: 11001011 10010111. -/
  | res2A
  /-- RES 3,B: 11001011 10011000. -/
  | res3B
  /-- RES 3,C: 11001011 10011001. -/
  | res3C
  /-- RES 3,D: 11001011 10011010. -/
  | res3D
  /-- RES 3,E: 11001011 10011011. -/
  | res3E
  /-- RES 3,H: 11001011 10011100. -/
  | res3H
  /-- RES 3,L: 11001011 10011101. -/
  | res3L
  /-- RES 3,(HL): 11001011 10011110. -/
  | res3AtHL
  /-- RES 3,A: 11001011 10011111. -/
  | res3A
  /-- RES 4,B: 11001011 10100000. -/
  | res4B
  /-- RES 4,C: 11001011 10100001. -/
  | res4C
  /-- RES 4,D: 11001011 10100010. -/
  | res4D
  /-- RES 4,E: 11001011 10100011. -/
  | res4E
  /-- RES 4,H: 11001011 10100100. -/
  | res4H
  /-- RES 4,L: 11001011 10100101. -/
  | res4L
  /-- RES 4,(HL): 11001011 10100110. -/
  | res4AtHL
  /-- RES 4,A: 11001011 10100111. -/
  | res4A
  /-- RES 5,B: 11001011 10101000. -/
  | res5B
  /-- RES 5,C: 11001011 10101001. -/
  | res5C
  /-- RES 5,D: 11001011 10101010. -/
  | res5D
  /-- RES 5,E: 11001011 10101011. -/
  | res5E
  /-- RES 5,H: 11001011 10101100. -/
  | res5H
  /-- RES 5,L: 11001011 10101101. -/
  | res5L
  /-- RES 5,(HL): 11001011 10101110. -/
  | res5AtHL
  /-- RES 5,A: 11001011 10101111. -/
  | res5A
  /-- RES 6,B: 11001011 10110000. -/
  | res6B
  /-- RES 6,C: 11001011 10110001. -/
  | res6C
  /-- RES 6,D: 11001011 10110010. -/
  | res6D
  /-- RES 6,E: 11001011 10110011. -/
  | res6E
  /-- RES 6,H: 11001011 10110100. -/
  | res6H
  /-- RES 6,L: 11001011 10110101. -/
  | res6L
  /-- RES 6,(HL): 11001011 10110110. -/
  | res6AtHL
  /-- RES 6,A: 11001011 10110111. -/
  | res6A
  /-- RES 7,B: 11001011 10111000. -/
  | res7B
  /-- RES 7,C: 11001011 10111001. -/
  | res7C
  /-- RES 7,D: 11001011 10111010. -/
  | res7D
  /-- RES 7,E: 11001011 10111011. -/
  | res7E
  /-- RES 7,H: 11001011 10111100. -/
  | res7H
  /-- RES 7,L: 11001011 10111101. -/
  | res7L
  /-- RES 7,(HL): 11001011 10111110. -/
  | res7AtHL
  /-- RES 7,A: 11001011 10111111. -/
  | res7A
  /-- SET 0,B: 11001011 11000000. -/
  | set0B
  /-- SET 0,C: 11001011 11000001. -/
  | set0C
  /-- SET 0,D: 11001011 11000010. -/
  | set0D
  /-- SET 0,E: 11001011 11000011. -/
  | set0E
  /-- SET 0,H: 11001011 11000100. -/
  | set0H
  /-- SET 0,L: 11001011 11000101. -/
  | set0L
  /-- SET 0,(HL): 11001011 11000110. -/
  | set0AtHL
  /-- SET 0,A: 11001011 11000111. -/
  | set0A
  /-- SET 1,B: 11001011 11001000. -/
  | set1B
  /-- SET 1,C: 11001011 11001001. -/
  | set1C
  /-- SET 1,D: 11001011 11001010. -/
  | set1D
  /-- SET 1,E: 11001011 11001011. -/
  | set1E
  /-- SET 1,H: 11001011 11001100. -/
  | set1H
  /-- SET 1,L: 11001011 11001101. -/
  | set1L
  /-- SET 1,(HL): 11001011 11001110. -/
  | set1AtHL
  /-- SET 1,A: 11001011 11001111. -/
  | set1A
  /-- SET 2,B: 11001011 11010000. -/
  | set2B
  /-- SET 2,C: 11001011 11010001. -/
  | set2C
  /-- SET 2,D: 11001011 11010010. -/
  | set2D
  /-- SET 2,E: 11001011 11010011. -/
  | set2E
  /-- SET 2,H: 11001011 11010100. -/
  | set2H
  /-- SET 2,L: 11001011 11010101. -/
  | set2L
  /-- SET 2,(HL): 11001011 11010110. -/
  | set2AtHL
  /-- SET 2,A: 11001011 11010111. -/
  | set2A
  /-- SET 3,B: 11001011 11011000. -/
  | set3B
  /-- SET 3,C: 11001011 11011001. -/
  | set3C
  /-- SET 3,D: 11001011 11011010. -/
  | set3D
  /-- SET 3,E: 11001011 11011011. -/
  | set3E
  /-- SET 3,H: 11001011 11011100. -/
  | set3H
  /-- SET 3,L: 11001011 11011101. -/
  | set3L
  /-- SET 3,(HL): 11001011 11011110. -/
  | set3AtHL
  /-- SET 3,A: 11001011 11011111. -/
  | set3A
  /-- SET 4,B: 11001011 11100000. -/
  | set4B
  /-- SET 4,C: 11001011 11100001. -/
  | set4C
  /-- SET 4,D: 11001011 11100010. -/
  | set4D
  /-- SET 4,E: 11001011 11100011. -/
  | set4E
  /-- SET 4,H: 11001011 11100100. -/
  | set4H
  /-- SET 4,L: 11001011 11100101. -/
  | set4L
  /-- SET 4,(HL): 11001011 11100110. -/
  | set4AtHL
  /-- SET 4,A: 11001011 11100111. -/
  | set4A
  /-- SET 5,B: 11001011 11101000. -/
  | set5B
  /-- SET 5,C: 11001011 11101001. -/
  | set5C
  /-- SET 5,D: 11001011 11101010. -/
  | set5D
  /-- SET 5,E: 11001011 11101011. -/
  | set5E
  /-- SET 5,H: 11001011 11101100. -/
  | set5H
  /-- SET 5,L: 11001011 11101101. -/
  | set5L
  /-- SET 5,(HL): 11001011 11101110. -/
  | set5AtHL
  /-- SET 5,A: 11001011 11101111. -/
  | set5A
  /-- SET 6,B: 11001011 11110000. -/
  | set6B
  /-- SET 6,C: 11001011 11110001. -/
  | set6C
  /-- SET 6,D: 11001011 11110010. -/
  | set6D
  /-- SET 6,E: 11001011 11110011. -/
  | set6E
  /-- SET 6,H: 11001011 11110100. -/
  | set6H
  /-- SET 6,L: 11001011 11110101. -/
  | set6L
  /-- SET 6,(HL): 11001011 11110110. -/
  | set6AtHL
  /-- SET 6,A: 11001011 11110111. -/
  | set6A
  /-- SET 7,B: 11001011 11111000. -/
  | set7B
  /-- SET 7,C: 11001011 11111001. -/
  | set7C
  /-- SET 7,D: 11001011 11111010. -/
  | set7D
  /-- SET 7,E: 11001011 11111011. -/
  | set7E
  /-- SET 7,H: 11001011 11111100. -/
  | set7H
  /-- SET 7,L: 11001011 11111101. -/
  | set7L
  /-- SET 7,(HL): 11001011 11111110. -/
  | set7AtHL
  /-- SET 7,A: 11001011 11111111. -/
  | set7A
deriving DecidableEq, Repr

end Sys2Proof
end

