-- ==== Sys2Proof/WellFormed.lean ====
section
/-! DEFINITION. Which terms of `Instr` are instructions. Operand ranges are the types' own (`Byte`, `Word`), so one check
is left. -/

namespace Sys2Proof

/-- The lead byte 0xCB alone is no instruction: with its sub-opcode it is the CB instruction that the sub-opcode selects
(46_system.md R365), which has a constructor of its own. -/
def Instr.wf : Instr → Bool
  | .prefixCB _ => false
  | _ => true

end Sys2Proof
end

