-- ==== Sys2Proof/Decode.lean ====
section
/-! DEFINITION. The decoder, the encoder and the opcode maps (30_encoding.md R100, R103, R112 to R117). -/

namespace Sys2Proof

/-- Why bytes are no instruction: too few of them. Every byte value selects an instruction (R103). -/
inductive DecodeError where
  /-- There is no opcode byte. -/
  | noOpcode
  /-- The opcode's immediate, or the CB sub-opcode, is cut short. -/
  | missingBytes (opcode : Byte)
deriving DecidableEq, Repr

/-- The formats of R100. -/
inductive Format where
  | P1 | P2 | P3 | CB2 | PSTOP | ILLEGAL
deriving DecidableEq, Repr

/-- The 11 illegal primary opcodes (R115). -/
def illegalOpcodes : List Byte :=
  [0xD3, 0xDB, 0xDD, 0xE3, 0xE4, 0xEB, 0xEC, 0xED, 0xF4, 0xFC, 0xFD]

/-- The format of an opcode, by its fields x, y, z and q (R100, R101, R113): the immediates of each group. -/
def formatOf (op : Byte) : Format :=
  if op = 0xCB then .CB2
  else if op = 0x10 then .PSTOP
  else if illegalOpcodes.contains op then .ILLEGAL
  else
    let y := (fieldY op).toNat
    match (fieldX op).toNat, (fieldZ op).toNat with
    | 0, 0 => if y = 0 then .P1 else if y = 1 then .P3 else .P2
    | 0, 1 => if fieldQ op then .P1 else .P3
    | 0, 6 => .P2
    | 3, 0 => if y < 4 then .P1 else .P2
    | 3, 2 => if y < 4 || y = 5 || y = 7 then .P3 else .P1
    | 3, 3 => if y = 0 then .P3 else .P1
    | 3, 4 => .P3
    | 3, 5 => if fieldQ op then .P3 else .P1
    | 3, 6 => .P2
    | _, _ => .P1

/-- How many bytes the core reads for a format: STOP's second byte is not read (R100, R117, 46_system.md R362). -/
def Format.bytesRead : Format → Nat
  | .P2 | .CB2 => 2
  | .P3 => 3
  | .P1 | .PSTOP | .ILLEGAL => 1

/-- Row 0x of the primary map (30_encoding.md R113). -/
def primaryRow0 (n : Byte) (nn : Word) : List Instr :=
  [.nop, .ldBCd16 nn, .ldAtBCA, .incBC, .incB, .decB, .ldBd8 n, .rlca, .ldAtA16SP nn, .addHLBC, .ldAAtBC, .decBC,
   .incC, .decC, .ldCd8 n, .rrca]

/-- Row 1x of the primary map (30_encoding.md R113). -/
def primaryRow1 (n : Byte) (nn : Word) : List Instr :=
  [.stop, .ldDEd16 nn, .ldAtDEA, .incDE, .incD, .decD, .ldDd8 n, .rla, .jre8 n, .addHLDE, .ldAAtDE, .decDE, .incE,
   .decE, .ldEd8 n, .rra]

/-- Row 2x of the primary map (30_encoding.md R113). -/
def primaryRow2 (n : Byte) (nn : Word) : List Instr :=
  [.jrNZe8 n, .ldHLd16 nn, .ldAtHLIncA, .incHL, .incH, .decH, .ldHd8 n, .daa, .jrZe8 n, .addHLHL, .ldAAtHLInc,
   .decHL, .incL, .decL, .ldLd8 n, .cpl]

/-- Row 3x of the primary map (30_encoding.md R113). -/
def primaryRow3 (n : Byte) (nn : Word) : List Instr :=
  [.jrNCe8 n, .ldSPd16 nn, .ldAtHLDecA, .incSP, .incAtHL, .decAtHL, .ldAtHLd8 n, .scf, .jrCe8 n, .addHLSP,
   .ldAAtHLDec, .decSP, .incA, .decA, .ldAd8 n, .ccf]

/-- Row 4x of the primary map (30_encoding.md R113). -/
def primaryRow4 : List Instr :=
  [.ldBB, .ldBC, .ldBD, .ldBE, .ldBH, .ldBL, .ldBAtHL, .ldBA, .ldCB, .ldCC, .ldCD, .ldCE, .ldCH, .ldCL, .ldCAtHL,
   .ldCA]

/-- Row 5x of the primary map (30_encoding.md R113). -/
def primaryRow5 : List Instr :=
  [.ldDB, .ldDC, .ldDD, .ldDE, .ldDH, .ldDL, .ldDAtHL, .ldDA, .ldEB, .ldEC, .ldED, .ldEE, .ldEH, .ldEL, .ldEAtHL,
   .ldEA]

/-- Row 6x of the primary map (30_encoding.md R113). -/
def primaryRow6 : List Instr :=
  [.ldHB, .ldHC, .ldHD, .ldHE, .ldHH, .ldHL, .ldHAtHL, .ldHA, .ldLB, .ldLC, .ldLD, .ldLE, .ldLH, .ldLL, .ldLAtHL,
   .ldLA]

/-- Row 7x of the primary map (30_encoding.md R113). -/
def primaryRow7 : List Instr :=
  [.ldAtHLB, .ldAtHLC, .ldAtHLD, .ldAtHLE, .ldAtHLH, .ldAtHLL, .halt, .ldAtHLA, .ldAB, .ldAC, .ldAD, .ldAE, .ldAH,
   .ldAL, .ldAAtHL, .ldAA]

/-- Row 8x of the primary map (30_encoding.md R113). -/
def primaryRow8 : List Instr :=
  [.addAB, .addAC, .addAD, .addAE, .addAH, .addAL, .addAAtHL, .addAA, .adcAB, .adcAC, .adcAD, .adcAE, .adcAH,
   .adcAL, .adcAAtHL, .adcAA]

/-- Row 9x of the primary map (30_encoding.md R113). -/
def primaryRow9 : List Instr :=
  [.subB, .subC, .subD, .subE, .subH, .subL, .subAtHL, .subA, .sbcAB, .sbcAC, .sbcAD, .sbcAE, .sbcAH, .sbcAL,
   .sbcAAtHL, .sbcAA]

/-- Row Ax of the primary map (30_encoding.md R113). -/
def primaryRowA : List Instr :=
  [.andB, .andC, .andD, .andE, .andH, .andL, .andAtHL, .andA, .xorB, .xorC, .xorD, .xorE, .xorH, .xorL, .xorAtHL,
   .xorA]

/-- Row Bx of the primary map (30_encoding.md R113). -/
def primaryRowB : List Instr :=
  [.orB, .orC, .orD, .orE, .orH, .orL, .orAtHL, .orA, .cpB, .cpC, .cpD, .cpE, .cpH, .cpL, .cpAtHL, .cpA]

/-- Row Cx of the primary map (30_encoding.md R113). -/
def primaryRowC (n : Byte) (nn : Word) : List Instr :=
  [.retNZ, .popBC, .jpNZa16 nn, .jpa16 nn, .callNZa16 nn, .pushBC, .addAd8 n, .rst00H, .retZ, .ret, .jpZa16 nn,
   .prefixCB n, .callZa16 nn, .calla16 nn, .adcAd8 n, .rst08H]

/-- Row Dx of the primary map (30_encoding.md R113). -/
def primaryRowD (n : Byte) (nn : Word) : List Instr :=
  [.retNC, .popDE, .jpNCa16 nn, .illegalD3, .callNCa16 nn, .pushDE, .subd8 n, .rst10H, .retC, .reti, .jpCa16 nn,
   .illegalDB, .callCa16 nn, .illegalDD, .sbcAd8 n, .rst18H]

/-- Row Ex of the primary map (30_encoding.md R113). -/
def primaryRowE (n : Byte) (nn : Word) : List Instr :=
  [.ldhAtA8A n, .popHL, .ldAtCA, .illegalE3, .illegalE4, .pushHL, .andd8 n, .rst20H, .addSPe8 n, .jpHL,
   .ldAtA16A nn, .illegalEB, .illegalEC, .illegalED, .xord8 n, .rst28H]

/-- Row Fx of the primary map (30_encoding.md R113). -/
def primaryRowF (n : Byte) (nn : Word) : List Instr :=
  [.ldhAAtA8 n, .popAF, .ldAAtC, .di, .illegalF4, .pushAF, .ord8 n, .rst30H, .ldHLSPe8 n, .ldSPHL, .ldAAtA16 nn,
   .ei, .illegalFC, .illegalFD, .cpd8 n, .rst38H]

/-- The primary opcode map by rows (R113), its immediates `n` (8 bits) and `nn` (16 bits) filled in. -/
def primaryMap (row : Nat) (n : Byte) (nn : Word) : List Instr :=
  match row with
  | 0 => primaryRow0 n nn
  | 1 => primaryRow1 n nn
  | 2 => primaryRow2 n nn
  | 3 => primaryRow3 n nn
  | 4 => primaryRow4
  | 5 => primaryRow5
  | 6 => primaryRow6
  | 7 => primaryRow7
  | 8 => primaryRow8
  | 9 => primaryRow9
  | 10 => primaryRowA
  | 11 => primaryRowB
  | 12 => primaryRowC n nn
  | 13 => primaryRowD n nn
  | 14 => primaryRowE n nn
  | _ => primaryRowF n nn

/-- Row 0x of the CB-prefixed map (30_encoding.md R114). -/
def cbRow0 : List Instr :=
  [.rlcB, .rlcC, .rlcD, .rlcE, .rlcH, .rlcL, .rlcAtHL, .rlcA, .rrcB, .rrcC, .rrcD, .rrcE, .rrcH, .rrcL, .rrcAtHL,
   .rrcA]

/-- Row 1x of the CB-prefixed map (30_encoding.md R114). -/
def cbRow1 : List Instr :=
  [.rlB, .rlC, .rlD, .rlE, .rlH, .rlL, .rlAtHL, .rlA, .rrB, .rrC, .rrD, .rrE, .rrH, .rrL, .rrAtHL, .rrA]

/-- Row 2x of the CB-prefixed map (30_encoding.md R114). -/
def cbRow2 : List Instr :=
  [.slaB, .slaC, .slaD, .slaE, .slaH, .slaL, .slaAtHL, .slaA, .sraB, .sraC, .sraD, .sraE, .sraH, .sraL, .sraAtHL,
   .sraA]

/-- Row 3x of the CB-prefixed map (30_encoding.md R114). -/
def cbRow3 : List Instr :=
  [.swapB, .swapC, .swapD, .swapE, .swapH, .swapL, .swapAtHL, .swapA, .srlB, .srlC, .srlD, .srlE, .srlH, .srlL,
   .srlAtHL, .srlA]

/-- Row 4x of the CB-prefixed map (30_encoding.md R114). -/
def cbRow4 : List Instr :=
  [.bit0B, .bit0C, .bit0D, .bit0E, .bit0H, .bit0L, .bit0AtHL, .bit0A, .bit1B, .bit1C, .bit1D, .bit1E, .bit1H,
   .bit1L, .bit1AtHL, .bit1A]

/-- Row 5x of the CB-prefixed map (30_encoding.md R114). -/
def cbRow5 : List Instr :=
  [.bit2B, .bit2C, .bit2D, .bit2E, .bit2H, .bit2L, .bit2AtHL, .bit2A, .bit3B, .bit3C, .bit3D, .bit3E, .bit3H,
   .bit3L, .bit3AtHL, .bit3A]

/-- Row 6x of the CB-prefixed map (30_encoding.md R114). -/
def cbRow6 : List Instr :=
  [.bit4B, .bit4C, .bit4D, .bit4E, .bit4H, .bit4L, .bit4AtHL, .bit4A, .bit5B, .bit5C, .bit5D, .bit5E, .bit5H,
   .bit5L, .bit5AtHL, .bit5A]

/-- Row 7x of the CB-prefixed map (30_encoding.md R114). -/
def cbRow7 : List Instr :=
  [.bit6B, .bit6C, .bit6D, .bit6E, .bit6H, .bit6L, .bit6AtHL, .bit6A, .bit7B, .bit7C, .bit7D, .bit7E, .bit7H,
   .bit7L, .bit7AtHL, .bit7A]

/-- Row 8x of the CB-prefixed map (30_encoding.md R114). -/
def cbRow8 : List Instr :=
  [.res0B, .res0C, .res0D, .res0E, .res0H, .res0L, .res0AtHL, .res0A, .res1B, .res1C, .res1D, .res1E, .res1H,
   .res1L, .res1AtHL, .res1A]

/-- Row 9x of the CB-prefixed map (30_encoding.md R114). -/
def cbRow9 : List Instr :=
  [.res2B, .res2C, .res2D, .res2E, .res2H, .res2L, .res2AtHL, .res2A, .res3B, .res3C, .res3D, .res3E, .res3H,
   .res3L, .res3AtHL, .res3A]

/-- Row Ax of the CB-prefixed map (30_encoding.md R114). -/
def cbRowA : List Instr :=
  [.res4B, .res4C, .res4D, .res4E, .res4H, .res4L, .res4AtHL, .res4A, .res5B, .res5C, .res5D, .res5E, .res5H,
   .res5L, .res5AtHL, .res5A]

/-- Row Bx of the CB-prefixed map (30_encoding.md R114). -/
def cbRowB : List Instr :=
  [.res6B, .res6C, .res6D, .res6E, .res6H, .res6L, .res6AtHL, .res6A, .res7B, .res7C, .res7D, .res7E, .res7H,
   .res7L, .res7AtHL, .res7A]

/-- Row Cx of the CB-prefixed map (30_encoding.md R114). -/
def cbRowC : List Instr :=
  [.set0B, .set0C, .set0D, .set0E, .set0H, .set0L, .set0AtHL, .set0A, .set1B, .set1C, .set1D, .set1E, .set1H,
   .set1L, .set1AtHL, .set1A]

/-- Row Dx of the CB-prefixed map (30_encoding.md R114). -/
def cbRowD : List Instr :=
  [.set2B, .set2C, .set2D, .set2E, .set2H, .set2L, .set2AtHL, .set2A, .set3B, .set3C, .set3D, .set3E, .set3H,
   .set3L, .set3AtHL, .set3A]

/-- Row Ex of the CB-prefixed map (30_encoding.md R114). -/
def cbRowE : List Instr :=
  [.set4B, .set4C, .set4D, .set4E, .set4H, .set4L, .set4AtHL, .set4A, .set5B, .set5C, .set5D, .set5E, .set5H,
   .set5L, .set5AtHL, .set5A]

/-- Row Fx of the CB-prefixed map (30_encoding.md R114). -/
def cbRowF : List Instr :=
  [.set6B, .set6C, .set6D, .set6E, .set6H, .set6L, .set6AtHL, .set6A, .set7B, .set7C, .set7D, .set7E, .set7H,
   .set7L, .set7AtHL, .set7A]

/-- The CB-prefixed map by rows (R114). -/
def cbMap (row : Nat) : List Instr :=
  match row with
  | 0 => cbRow0
  | 1 => cbRow1
  | 2 => cbRow2
  | 3 => cbRow3
  | 4 => cbRow4
  | 5 => cbRow5
  | 6 => cbRow6
  | 7 => cbRow7
  | 8 => cbRow8
  | 9 => cbRow9
  | 10 => cbRowA
  | 11 => cbRowB
  | 12 => cbRowC
  | 13 => cbRowD
  | 14 => cbRowE
  | _ => cbRowF

/-- The primary handler selected by an opcode, with its immediates (R103, R113). -/
def ofPrimary (op : Byte) (n : Byte) (nn : Word) : Instr := (primaryMap (op.toNat / 16) n nn).getD (op.toNat % 16) .nop

/-- The CB handler selected by a sub-opcode (R103, R114). -/
def ofCb (sub : Byte) : Instr := (cbMap (sub.toNat / 16)).getD (sub.toNat % 16) .nop

/-- Decode the instruction at the head of a list of bytes, and give the bytes after it (R103). The 0xCB lead byte selects
the CB map for the next byte (R117). -/
def decode : List Byte → Except DecodeError (Instr × List Byte)
  | [] => .error .noOpcode
  | op :: rest =>
    match formatOf op, rest with
    | .P1, _ | .PSTOP, _ | .ILLEGAL, _ => .ok (ofPrimary op 0 0, rest)
    | .P2, n :: rest => .ok (ofPrimary op n 0, rest)
    | .P3, lo :: hi :: rest => .ok (ofPrimary op 0 (cat16 hi lo), rest)
    | .CB2, sub :: rest => .ok (ofCb sub, rest)
    | _, _ => .error (.missingBytes op)

/-- The three bytes of a table word of `nbits` bits, the first at the lowest address. A 16-bit word whose high byte is
0xCB is a CB row of opcode_table.json, which writes the lead byte there; any other word has its first byte in bits 7..0
(log entry 11). -/
def tableWordBytes (nbits w : Nat) : List Byte :=
  let v := w % 2 ^ nbits
  if nbits = 16 && v / 256 = 0xCB then [0xCB, BitVec.ofNat 8 v, 0]
  else [BitVec.ofNat 8 v, BitVec.ofNat 8 (v / 256), BitVec.ofNat 8 (v / 65536)]

/-- What the decoder reads from a table word. -/
def decodeTableWord (nbits w : Nat) : Option Instr :=
  match decode (tableWordBytes nbits w) with
  | .ok (i, _) => some i
  | .error _ => none

/-- The bytes of an instruction (R100, R112, R113, R114). STOP's ignored byte, when `STOP_BYTES` is 2, is no part of
what the core reads (46_system.md R362, log entry 8). -/
def encode : Instr → List Byte
  | .nop => [0x00]
  | .ldBCd16 nn => [0x01, lo8 nn, hi8 nn]
  | .ldAtBCA => [0x02]
  | .incBC => [0x03]
  | .incB => [0x04]
  | .decB => [0x05]
  | .ldBd8 n => [0x06, n]
  | .rlca => [0x07]
  | .ldAtA16SP nn => [0x08, lo8 nn, hi8 nn]
  | .addHLBC => [0x09]
  | .ldAAtBC => [0x0A]
  | .decBC => [0x0B]
  | .incC => [0x0C]
  | .decC => [0x0D]
  | .ldCd8 n => [0x0E, n]
  | .rrca => [0x0F]
  | .stop => [0x10]
  | .ldDEd16 nn => [0x11, lo8 nn, hi8 nn]
  | .ldAtDEA => [0x12]
  | .incDE => [0x13]
  | .incD => [0x14]
  | .decD => [0x15]
  | .ldDd8 n => [0x16, n]
  | .rla => [0x17]
  | .jre8 n => [0x18, n]
  | .addHLDE => [0x19]
  | .ldAAtDE => [0x1A]
  | .decDE => [0x1B]
  | .incE => [0x1C]
  | .decE => [0x1D]
  | .ldEd8 n => [0x1E, n]
  | .rra => [0x1F]
  | .jrNZe8 n => [0x20, n]
  | .ldHLd16 nn => [0x21, lo8 nn, hi8 nn]
  | .ldAtHLIncA => [0x22]
  | .incHL => [0x23]
  | .incH => [0x24]
  | .decH => [0x25]
  | .ldHd8 n => [0x26, n]
  | .daa => [0x27]
  | .jrZe8 n => [0x28, n]
  | .addHLHL => [0x29]
  | .ldAAtHLInc => [0x2A]
  | .decHL => [0x2B]
  | .incL => [0x2C]
  | .decL => [0x2D]
  | .ldLd8 n => [0x2E, n]
  | .cpl => [0x2F]
  | .jrNCe8 n => [0x30, n]
  | .ldSPd16 nn => [0x31, lo8 nn, hi8 nn]
  | .ldAtHLDecA => [0x32]
  | .incSP => [0x33]
  | .incAtHL => [0x34]
  | .decAtHL => [0x35]
  | .ldAtHLd8 n => [0x36, n]
  | .scf => [0x37]
  | .jrCe8 n => [0x38, n]
  | .addHLSP => [0x39]
  | .ldAAtHLDec => [0x3A]
  | .decSP => [0x3B]
  | .incA => [0x3C]
  | .decA => [0x3D]
  | .ldAd8 n => [0x3E, n]
  | .ccf => [0x3F]
  | .ldBB => [0x40]
  | .ldBC => [0x41]
  | .ldBD => [0x42]
  | .ldBE => [0x43]
  | .ldBH => [0x44]
  | .ldBL => [0x45]
  | .ldBAtHL => [0x46]
  | .ldBA => [0x47]
  | .ldCB => [0x48]
  | .ldCC => [0x49]
  | .ldCD => [0x4A]
  | .ldCE => [0x4B]
  | .ldCH => [0x4C]
  | .ldCL => [0x4D]
  | .ldCAtHL => [0x4E]
  | .ldCA => [0x4F]
  | .ldDB => [0x50]
  | .ldDC => [0x51]
  | .ldDD => [0x52]
  | .ldDE => [0x53]
  | .ldDH => [0x54]
  | .ldDL => [0x55]
  | .ldDAtHL => [0x56]
  | .ldDA => [0x57]
  | .ldEB => [0x58]
  | .ldEC => [0x59]
  | .ldED => [0x5A]
  | .ldEE => [0x5B]
  | .ldEH => [0x5C]
  | .ldEL => [0x5D]
  | .ldEAtHL => [0x5E]
  | .ldEA => [0x5F]
  | .ldHB => [0x60]
  | .ldHC => [0x61]
  | .ldHD => [0x62]
  | .ldHE => [0x63]
  | .ldHH => [0x64]
  | .ldHL => [0x65]
  | .ldHAtHL => [0x66]
  | .ldHA => [0x67]
  | .ldLB => [0x68]
  | .ldLC => [0x69]
  | .ldLD => [0x6A]
  | .ldLE => [0x6B]
  | .ldLH => [0x6C]
  | .ldLL => [0x6D]
  | .ldLAtHL => [0x6E]
  | .ldLA => [0x6F]
  | .ldAtHLB => [0x70]
  | .ldAtHLC => [0x71]
  | .ldAtHLD => [0x72]
  | .ldAtHLE => [0x73]
  | .ldAtHLH => [0x74]
  | .ldAtHLL => [0x75]
  | .halt => [0x76]
  | .ldAtHLA => [0x77]
  | .ldAB => [0x78]
  | .ldAC => [0x79]
  | .ldAD => [0x7A]
  | .ldAE => [0x7B]
  | .ldAH => [0x7C]
  | .ldAL => [0x7D]
  | .ldAAtHL => [0x7E]
  | .ldAA => [0x7F]
  | .addAB => [0x80]
  | .addAC => [0x81]
  | .addAD => [0x82]
  | .addAE => [0x83]
  | .addAH => [0x84]
  | .addAL => [0x85]
  | .addAAtHL => [0x86]
  | .addAA => [0x87]
  | .adcAB => [0x88]
  | .adcAC => [0x89]
  | .adcAD => [0x8A]
  | .adcAE => [0x8B]
  | .adcAH => [0x8C]
  | .adcAL => [0x8D]
  | .adcAAtHL => [0x8E]
  | .adcAA => [0x8F]
  | .subB => [0x90]
  | .subC => [0x91]
  | .subD => [0x92]
  | .subE => [0x93]
  | .subH => [0x94]
  | .subL => [0x95]
  | .subAtHL => [0x96]
  | .subA => [0x97]
  | .sbcAB => [0x98]
  | .sbcAC => [0x99]
  | .sbcAD => [0x9A]
  | .sbcAE => [0x9B]
  | .sbcAH => [0x9C]
  | .sbcAL => [0x9D]
  | .sbcAAtHL => [0x9E]
  | .sbcAA => [0x9F]
  | .andB => [0xA0]
  | .andC => [0xA1]
  | .andD => [0xA2]
  | .andE => [0xA3]
  | .andH => [0xA4]
  | .andL => [0xA5]
  | .andAtHL => [0xA6]
  | .andA => [0xA7]
  | .xorB => [0xA8]
  | .xorC => [0xA9]
  | .xorD => [0xAA]
  | .xorE => [0xAB]
  | .xorH => [0xAC]
  | .xorL => [0xAD]
  | .xorAtHL => [0xAE]
  | .xorA => [0xAF]
  | .orB => [0xB0]
  | .orC => [0xB1]
  | .orD => [0xB2]
  | .orE => [0xB3]
  | .orH => [0xB4]
  | .orL => [0xB5]
  | .orAtHL => [0xB6]
  | .orA => [0xB7]
  | .cpB => [0xB8]
  | .cpC => [0xB9]
  | .cpD => [0xBA]
  | .cpE => [0xBB]
  | .cpH => [0xBC]
  | .cpL => [0xBD]
  | .cpAtHL => [0xBE]
  | .cpA => [0xBF]
  | .retNZ => [0xC0]
  | .popBC => [0xC1]
  | .jpNZa16 nn => [0xC2, lo8 nn, hi8 nn]
  | .jpa16 nn => [0xC3, lo8 nn, hi8 nn]
  | .callNZa16 nn => [0xC4, lo8 nn, hi8 nn]
  | .pushBC => [0xC5]
  | .addAd8 n => [0xC6, n]
  | .rst00H => [0xC7]
  | .retZ => [0xC8]
  | .ret => [0xC9]
  | .jpZa16 nn => [0xCA, lo8 nn, hi8 nn]
  | .prefixCB sub => [0xCB, sub]
  | .callZa16 nn => [0xCC, lo8 nn, hi8 nn]
  | .calla16 nn => [0xCD, lo8 nn, hi8 nn]
  | .adcAd8 n => [0xCE, n]
  | .rst08H => [0xCF]
  | .retNC => [0xD0]
  | .popDE => [0xD1]
  | .jpNCa16 nn => [0xD2, lo8 nn, hi8 nn]
  | .illegalD3 => [0xD3]
  | .callNCa16 nn => [0xD4, lo8 nn, hi8 nn]
  | .pushDE => [0xD5]
  | .subd8 n => [0xD6, n]
  | .rst10H => [0xD7]
  | .retC => [0xD8]
  | .reti => [0xD9]
  | .jpCa16 nn => [0xDA, lo8 nn, hi8 nn]
  | .illegalDB => [0xDB]
  | .callCa16 nn => [0xDC, lo8 nn, hi8 nn]
  | .illegalDD => [0xDD]
  | .sbcAd8 n => [0xDE, n]
  | .rst18H => [0xDF]
  | .ldhAtA8A n => [0xE0, n]
  | .popHL => [0xE1]
  | .ldAtCA => [0xE2]
  | .illegalE3 => [0xE3]
  | .illegalE4 => [0xE4]
  | .pushHL => [0xE5]
  | .andd8 n => [0xE6, n]
  | .rst20H => [0xE7]
  | .addSPe8 n => [0xE8, n]
  | .jpHL => [0xE9]
  | .ldAtA16A nn => [0xEA, lo8 nn, hi8 nn]
  | .illegalEB => [0xEB]
  | .illegalEC => [0xEC]
  | .illegalED => [0xED]
  | .xord8 n => [0xEE, n]
  | .rst28H => [0xEF]
  | .ldhAAtA8 n => [0xF0, n]
  | .popAF => [0xF1]
  | .ldAAtC => [0xF2]
  | .di => [0xF3]
  | .illegalF4 => [0xF4]
  | .pushAF => [0xF5]
  | .ord8 n => [0xF6, n]
  | .rst30H => [0xF7]
  | .ldHLSPe8 n => [0xF8, n]
  | .ldSPHL => [0xF9]
  | .ldAAtA16 nn => [0xFA, lo8 nn, hi8 nn]
  | .ei => [0xFB]
  | .illegalFC => [0xFC]
  | .illegalFD => [0xFD]
  | .cpd8 n => [0xFE, n]
  | .rst38H => [0xFF]
  | .rlcB => [0xCB, 0x00]
  | .rlcC => [0xCB, 0x01]
  | .rlcD => [0xCB, 0x02]
  | .rlcE => [0xCB, 0x03]
  | .rlcH => [0xCB, 0x04]
  | .rlcL => [0xCB, 0x05]
  | .rlcAtHL => [0xCB, 0x06]
  | .rlcA => [0xCB, 0x07]
  | .rrcB => [0xCB, 0x08]
  | .rrcC => [0xCB, 0x09]
  | .rrcD => [0xCB, 0x0A]
  | .rrcE => [0xCB, 0x0B]
  | .rrcH => [0xCB, 0x0C]
  | .rrcL => [0xCB, 0x0D]
  | .rrcAtHL => [0xCB, 0x0E]
  | .rrcA => [0xCB, 0x0F]
  | .rlB => [0xCB, 0x10]
  | .rlC => [0xCB, 0x11]
  | .rlD => [0xCB, 0x12]
  | .rlE => [0xCB, 0x13]
  | .rlH => [0xCB, 0x14]
  | .rlL => [0xCB, 0x15]
  | .rlAtHL => [0xCB, 0x16]
  | .rlA => [0xCB, 0x17]
  | .rrB => [0xCB, 0x18]
  | .rrC => [0xCB, 0x19]
  | .rrD => [0xCB, 0x1A]
  | .rrE => [0xCB, 0x1B]
  | .rrH => [0xCB, 0x1C]
  | .rrL => [0xCB, 0x1D]
  | .rrAtHL => [0xCB, 0x1E]
  | .rrA => [0xCB, 0x1F]
  | .slaB => [0xCB, 0x20]
  | .slaC => [0xCB, 0x21]
  | .slaD => [0xCB, 0x22]
  | .slaE => [0xCB, 0x23]
  | .slaH => [0xCB, 0x24]
  | .slaL => [0xCB, 0x25]
  | .slaAtHL => [0xCB, 0x26]
  | .slaA => [0xCB, 0x27]
  | .sraB => [0xCB, 0x28]
  | .sraC => [0xCB, 0x29]
  | .sraD => [0xCB, 0x2A]
  | .sraE => [0xCB, 0x2B]
  | .sraH => [0xCB, 0x2C]
  | .sraL => [0xCB, 0x2D]
  | .sraAtHL => [0xCB, 0x2E]
  | .sraA => [0xCB, 0x2F]
  | .swapB => [0xCB, 0x30]
  | .swapC => [0xCB, 0x31]
  | .swapD => [0xCB, 0x32]
  | .swapE => [0xCB, 0x33]
  | .swapH => [0xCB, 0x34]
  | .swapL => [0xCB, 0x35]
  | .swapAtHL => [0xCB, 0x36]
  | .swapA => [0xCB, 0x37]
  | .srlB => [0xCB, 0x38]
  | .srlC => [0xCB, 0x39]
  | .srlD => [0xCB, 0x3A]
  | .srlE => [0xCB, 0x3B]
  | .srlH => [0xCB, 0x3C]
  | .srlL => [0xCB, 0x3D]
  | .srlAtHL => [0xCB, 0x3E]
  | .srlA => [0xCB, 0x3F]
  | .bit0B => [0xCB, 0x40]
  | .bit0C => [0xCB, 0x41]
  | .bit0D => [0xCB, 0x42]
  | .bit0E => [0xCB, 0x43]
  | .bit0H => [0xCB, 0x44]
  | .bit0L => [0xCB, 0x45]
  | .bit0AtHL => [0xCB, 0x46]
  | .bit0A => [0xCB, 0x47]
  | .bit1B => [0xCB, 0x48]
  | .bit1C => [0xCB, 0x49]
  | .bit1D => [0xCB, 0x4A]
  | .bit1E => [0xCB, 0x4B]
  | .bit1H => [0xCB, 0x4C]
  | .bit1L => [0xCB, 0x4D]
  | .bit1AtHL => [0xCB, 0x4E]
  | .bit1A => [0xCB, 0x4F]
  | .bit2B => [0xCB, 0x50]
  | .bit2C => [0xCB, 0x51]
  | .bit2D => [0xCB, 0x52]
  | .bit2E => [0xCB, 0x53]
  | .bit2H => [0xCB, 0x54]
  | .bit2L => [0xCB, 0x55]
  | .bit2AtHL => [0xCB, 0x56]
  | .bit2A => [0xCB, 0x57]
  | .bit3B => [0xCB, 0x58]
  | .bit3C => [0xCB, 0x59]
  | .bit3D => [0xCB, 0x5A]
  | .bit3E => [0xCB, 0x5B]
  | .bit3H => [0xCB, 0x5C]
  | .bit3L => [0xCB, 0x5D]
  | .bit3AtHL => [0xCB, 0x5E]
  | .bit3A => [0xCB, 0x5F]
  | .bit4B => [0xCB, 0x60]
  | .bit4C => [0xCB, 0x61]
  | .bit4D => [0xCB, 0x62]
  | .bit4E => [0xCB, 0x63]
  | .bit4H => [0xCB, 0x64]
  | .bit4L => [0xCB, 0x65]
  | .bit4AtHL => [0xCB, 0x66]
  | .bit4A => [0xCB, 0x67]
  | .bit5B => [0xCB, 0x68]
  | .bit5C => [0xCB, 0x69]
  | .bit5D => [0xCB, 0x6A]
  | .bit5E => [0xCB, 0x6B]
  | .bit5H => [0xCB, 0x6C]
  | .bit5L => [0xCB, 0x6D]
  | .bit5AtHL => [0xCB, 0x6E]
  | .bit5A => [0xCB, 0x6F]
  | .bit6B => [0xCB, 0x70]
  | .bit6C => [0xCB, 0x71]
  | .bit6D => [0xCB, 0x72]
  | .bit6E => [0xCB, 0x73]
  | .bit6H => [0xCB, 0x74]
  | .bit6L => [0xCB, 0x75]
  | .bit6AtHL => [0xCB, 0x76]
  | .bit6A => [0xCB, 0x77]
  | .bit7B => [0xCB, 0x78]
  | .bit7C => [0xCB, 0x79]
  | .bit7D => [0xCB, 0x7A]
  | .bit7E => [0xCB, 0x7B]
  | .bit7H => [0xCB, 0x7C]
  | .bit7L => [0xCB, 0x7D]
  | .bit7AtHL => [0xCB, 0x7E]
  | .bit7A => [0xCB, 0x7F]
  | .res0B => [0xCB, 0x80]
  | .res0C => [0xCB, 0x81]
  | .res0D => [0xCB, 0x82]
  | .res0E => [0xCB, 0x83]
  | .res0H => [0xCB, 0x84]
  | .res0L => [0xCB, 0x85]
  | .res0AtHL => [0xCB, 0x86]
  | .res0A => [0xCB, 0x87]
  | .res1B => [0xCB, 0x88]
  | .res1C => [0xCB, 0x89]
  | .res1D => [0xCB, 0x8A]
  | .res1E => [0xCB, 0x8B]
  | .res1H => [0xCB, 0x8C]
  | .res1L => [0xCB, 0x8D]
  | .res1AtHL => [0xCB, 0x8E]
  | .res1A => [0xCB, 0x8F]
  | .res2B => [0xCB, 0x90]
  | .res2C => [0xCB, 0x91]
  | .res2D => [0xCB, 0x92]
  | .res2E => [0xCB, 0x93]
  | .res2H => [0xCB, 0x94]
  | .res2L => [0xCB, 0x95]
  | .res2AtHL => [0xCB, 0x96]
  | .res2A => [0xCB, 0x97]
  | .res3B => [0xCB, 0x98]
  | .res3C => [0xCB, 0x99]
  | .res3D => [0xCB, 0x9A]
  | .res3E => [0xCB, 0x9B]
  | .res3H => [0xCB, 0x9C]
  | .res3L => [0xCB, 0x9D]
  | .res3AtHL => [0xCB, 0x9E]
  | .res3A => [0xCB, 0x9F]
  | .res4B => [0xCB, 0xA0]
  | .res4C => [0xCB, 0xA1]
  | .res4D => [0xCB, 0xA2]
  | .res4E => [0xCB, 0xA3]
  | .res4H => [0xCB, 0xA4]
  | .res4L => [0xCB, 0xA5]
  | .res4AtHL => [0xCB, 0xA6]
  | .res4A => [0xCB, 0xA7]
  | .res5B => [0xCB, 0xA8]
  | .res5C => [0xCB, 0xA9]
  | .res5D => [0xCB, 0xAA]
  | .res5E => [0xCB, 0xAB]
  | .res5H => [0xCB, 0xAC]
  | .res5L => [0xCB, 0xAD]
  | .res5AtHL => [0xCB, 0xAE]
  | .res5A => [0xCB, 0xAF]
  | .res6B => [0xCB, 0xB0]
  | .res6C => [0xCB, 0xB1]
  | .res6D => [0xCB, 0xB2]
  | .res6E => [0xCB, 0xB3]
  | .res6H => [0xCB, 0xB4]
  | .res6L => [0xCB, 0xB5]
  | .res6AtHL => [0xCB, 0xB6]
  | .res6A => [0xCB, 0xB7]
  | .res7B => [0xCB, 0xB8]
  | .res7C => [0xCB, 0xB9]
  | .res7D => [0xCB, 0xBA]
  | .res7E => [0xCB, 0xBB]
  | .res7H => [0xCB, 0xBC]
  | .res7L => [0xCB, 0xBD]
  | .res7AtHL => [0xCB, 0xBE]
  | .res7A => [0xCB, 0xBF]
  | .set0B => [0xCB, 0xC0]
  | .set0C => [0xCB, 0xC1]
  | .set0D => [0xCB, 0xC2]
  | .set0E => [0xCB, 0xC3]
  | .set0H => [0xCB, 0xC4]
  | .set0L => [0xCB, 0xC5]
  | .set0AtHL => [0xCB, 0xC6]
  | .set0A => [0xCB, 0xC7]
  | .set1B => [0xCB, 0xC8]
  | .set1C => [0xCB, 0xC9]
  | .set1D => [0xCB, 0xCA]
  | .set1E => [0xCB, 0xCB]
  | .set1H => [0xCB, 0xCC]
  | .set1L => [0xCB, 0xCD]
  | .set1AtHL => [0xCB, 0xCE]
  | .set1A => [0xCB, 0xCF]
  | .set2B => [0xCB, 0xD0]
  | .set2C => [0xCB, 0xD1]
  | .set2D => [0xCB, 0xD2]
  | .set2E => [0xCB, 0xD3]
  | .set2H => [0xCB, 0xD4]
  | .set2L => [0xCB, 0xD5]
  | .set2AtHL => [0xCB, 0xD6]
  | .set2A => [0xCB, 0xD7]
  | .set3B => [0xCB, 0xD8]
  | .set3C => [0xCB, 0xD9]
  | .set3D => [0xCB, 0xDA]
  | .set3E => [0xCB, 0xDB]
  | .set3H => [0xCB, 0xDC]
  | .set3L => [0xCB, 0xDD]
  | .set3AtHL => [0xCB, 0xDE]
  | .set3A => [0xCB, 0xDF]
  | .set4B => [0xCB, 0xE0]
  | .set4C => [0xCB, 0xE1]
  | .set4D => [0xCB, 0xE2]
  | .set4E => [0xCB, 0xE3]
  | .set4H => [0xCB, 0xE4]
  | .set4L => [0xCB, 0xE5]
  | .set4AtHL => [0xCB, 0xE6]
  | .set4A => [0xCB, 0xE7]
  | .set5B => [0xCB, 0xE8]
  | .set5C => [0xCB, 0xE9]
  | .set5D => [0xCB, 0xEA]
  | .set5E => [0xCB, 0xEB]
  | .set5H => [0xCB, 0xEC]
  | .set5L => [0xCB, 0xED]
  | .set5AtHL => [0xCB, 0xEE]
  | .set5A => [0xCB, 0xEF]
  | .set6B => [0xCB, 0xF0]
  | .set6C => [0xCB, 0xF1]
  | .set6D => [0xCB, 0xF2]
  | .set6E => [0xCB, 0xF3]
  | .set6H => [0xCB, 0xF4]
  | .set6L => [0xCB, 0xF5]
  | .set6AtHL => [0xCB, 0xF6]
  | .set6A => [0xCB, 0xF7]
  | .set7B => [0xCB, 0xF8]
  | .set7C => [0xCB, 0xF9]
  | .set7D => [0xCB, 0xFA]
  | .set7E => [0xCB, 0xFB]
  | .set7H => [0xCB, 0xFC]
  | .set7L => [0xCB, 0xFD]
  | .set7AtHL => [0xCB, 0xFE]
  | .set7A => [0xCB, 0xFF]

end Sys2Proof
end

