-- ==== Sys2Proof/Machine/Fetch.lean ====
section
/-! DEFINITION. Reading an instruction's bytes (00_scope.md R15; 30_encoding.md R103, R117; 20_memory.md R84), and placing
one where the step fetches. -/

namespace Sys2Proof.Machine

/-- `imm8()`: the byte at `PC + bc`, and one more byte consumed (00_scope.md R15). It reads the CB sub-opcode too, which
counts one byte (10_state.md R46). -/
def State.imm8 (s : State) : Byte × State :=
  let m := s.memRead (s.regs.pc + BitVec.ofNat 16 s.scratch.bc)
  (m.1, { m.2 with scratch.bc := m.2.scratch.bc + 1 })

/-- The opcode at PC, then the CB sub-opcode or the immediates in address order (30_encoding.md R103). -/
def State.fetch (s : State) : List Byte × State :=
  let op := s.memRead s.regs.pc
  let s1 := { op.2 with scratch.bc := 1 }
  match (formatOf op.1).bytesRead with
  | 1 => ([op.1], s1)
  | 2 =>
    let a := s1.imm8
    ([op.1, a.1], a.2)
  | _ =>
    let a := s1.imm8
    let b := a.2.imm8
    ([op.1, a.1, b.1], b.2)

/-- Store bytes at consecutive addresses, without an access of the core. -/
def State.pokeBytes (s : State) (a : Word) : List Byte → State
  | [] => s
  | v :: vs => (s.pokeByte a v).pokeBytes (a + 1) vs

end Sys2Proof.Machine
end

