-- ==== Sys2Proof/Machine/Phases.lean ====
section
/-! DEFINITION. The phases of one step around an instruction (60_exceptions.md R404 to R410, R417, R420). -/

namespace Sys2Proof.Machine

/-- The host input of this step: the head of the queue, or nothing (R404, R417; log entry 5). -/
def State.nextInput (s : State) : HostInput := s.inputs.head?.getD HostInput.none

/-- Store a peripheral's bytes in order. -/
def State.pokeAll (s : State) (l : List (Word × Byte)) : State := { s with bus.mem := s.bus.mem.writeAll l }

/-- What other agents did to the bus since the last step: their stores, then the IF bits they set (R417, R435). -/
def State.applyInput (s : State) (e : HostInput) : State :=
  let t := s.pokeAll e.stores
  t.pokeByte ifAddr (t.byteAt ifAddr ||| e.ifSet)

/-- Take the step's input and start its scratch and its trace (R404). -/
def State.beginStep (s : State) : State :=
  let t := s.applyInput s.nextInput
  { t with scratch := Scratch.start, bus.trace := [], inputs := s.inputs.tail }

/-- Step 0: a stopped core wakes on `stopWake` (R405). -/
def State.stopWake (s : State) (wake : Bool) : State :=
  if s.int.stopped && wake then { s with int.stopped := false } else s

/-- Step 2: a halted core wakes when anything is pending (R406). -/
def State.haltWake (s : State) (pending : Byte) : State :=
  if s.int.halted && pending != 0 then { s with int.halted := false } else s

/-- Steps 0, 1 and 2 in order: the stop wake, the pending set, which is sampled once, and the halt wake (R403 to R406). -/
def State.wakes (s : State) : Byte × State :=
  let s1 := s.beginStep.stopWake s.nextInput.stopWake
  let pending := s1.pending
  (pending, s1.haltWake pending)

/-- Step 4: 4 cycles and nothing else (R409). -/
def State.idle (s : State) : State := (s.charge 4).updateTick

/-- Step 5's first act: a queued enable becomes IME (R410). -/
def State.applyEi (s : State) : State :=
  if s.int.eiPending then { s with int := { s.int with ime := true, eiPending := false } } else s

/-- The state after an illegal opcode: the core as it was at the start of the step, the fault mark, and the bus after the
opcode read (R420; log entry 6). `start` is the state at the start of the step, `t` the state that raised the fault. -/
def State.faulted (start t : State) : State := { start with fault := t.fault, bus := t.bus, inputs := t.inputs }

/-- Clear whatever keeps the next step from fetching the stored bytes at PC: the fault mark, Halted, Stopped, the host's
inputs, the bus's own answers, and IME when an enabled interrupt is pending. Used by `State.withFetchWord` alone (log
entry 10). -/
def State.readyToFetch (s : State) : State :=
  { s with
    fault := none
    inputs := []
    bus.answers := []
    int := { s.int with halted := false, stopped := false, ime := s.int.ime && s.pending == 0 } }

end Sys2Proof.Machine
end

