-- ==== Sys2Proof/Machine/Step.lean ====
section
/-! DEFINITION. One call of `Step()` (60_exceptions.md R404). -/

namespace Sys2Proof.Machine

/-- Step 5 on a state whose wakes are done: apply a queued enable, then fetch, decode and execute one instruction. An
illegal opcode gives back the state at the start of the step, with the fault mark (R410, R411, R420). -/
def executeOne (start s : State) : Result :=
  let f := s.applyEi.fetch
  match decode f.1 with
  | .error _ => .refused (.undecodable f.1)
  | .ok (i, _) =>
    match exec i f.2 with
    | .next t => .next (if t.fault.isSome then start.faulted t else t)
    | .fault r => .fault r
    | .refused r => .refused r

/-- The step machine (R404): nothing once a fault mark is set (R421); else the wakes, then exactly one of dispatch, idle
and one instruction. -/
def step (s : State) : Host.Outcome State Fault Refusal :=
  if s.fault.isSome then .next s
  else
    let w := s.wakes
    if w.2.int.ime && w.1 != 0 then .next (w.2.dispatch w.1)
    else if w.2.int.halted || w.2.int.stopped then .next w.2.idle
    else executeOne s w.2

/-- The state `s` with a table word's instruction stored at PC and nothing in the way of its fetch (log entry 10). -/
def State.withFetchWord (s : State) (nbits w : Nat) : State :=
  (s.pokeBytes s.regs.pc (tableWordBytes nbits w)).readyToFetch

end Sys2Proof.Machine
end

