-- ==== Sys2Proof/Safety.lean ====
section
/-! DEFINITION. The terms claims are stated in: the byte of F, what an instruction leaves unchanged, how it ends, which
of the three kinds a step is of, and the invariant. -/

namespace Sys2Proof.Machine

/-- F with these four flags and its low nibble 0 (10_state.md R34, R35). -/
def flagByte (z n h c : Bool) : Byte :=
  (boolToByte z <<< 7) ||| (boolToByte n <<< 6) ||| (boolToByte h <<< 5) ||| (boolToByte c <<< 4)

/-- Every 8-bit register outside `rs`, F among them, reads as before. -/
def KeepsReg8 (rs : List Reg8) (s t : State) : Prop := ∀ r, r ∉ rs → t.r8 r = s.r8 r

/-- Every 16-bit register outside `rs`, but PC, holds what it held. -/
def KeepsReg16 (rs : List Reg16) (s t : State) : Prop := ∀ r, r ∉ rs → r ≠ .PC → t.r16 r = s.r16 r

/-- The fault mark, the parameters and the inputs are unchanged. -/
def KeepsMachine (s t : State) : Prop := t.fault = s.fault ∧ t.params = s.params ∧ t.inputs = s.inputs

/-- IME, eiPending, Halted and Stopped are unchanged, and so is the rest of the machine's control state. -/
def KeepsControl (s t : State) : Prop := t.int = s.int ∧ KeepsMachine s t

/-- Only the 8-bit registers `rs` and PC can change among the registers, and no control state does. -/
def OnlyReg8 (rs : List Reg8) (s t : State) : Prop := KeepsReg8 rs s t ∧ t.regs.sp = s.regs.sp ∧ KeepsControl s t

/-- Only the 16-bit registers `rs` and PC can change among the registers, and no control state does. -/
def OnlyReg16 (rs : List Reg16) (s t : State) : Prop := KeepsReg16 rs s t ∧ KeepsControl s t

/-- The bus is the plain-RAM instance (20_memory.md R70, 60_exceptions.md R402): it answers every access as a plain RAM. -/
def State.PlainRam (s : State) : Prop := s.bus.answers = []

/-- On a plain RAM, every bus byte outside the addresses `as` reads as before. -/
def KeepsBytesOutside (as : List Word) (s t : State) : Prop := s.PlainRam → ∀ a, a ∉ as → t.byteAt a = s.byteAt a

/-- On a plain RAM in canonical form, the byte at `a` is `v` afterwards (log entry 1: another bus may refuse it). -/
def Stores (a : Word) (v : Byte) (s t : State) : Prop := s.PlainRam → s.bus.mem.wf → t.byteAt a = v

/-- The bus after these accesses in this order, each answered as the bus answers it (20_memory.md R70, R81). -/
def Bus.perform : Bus → List BusAccess → Bus
  | b, [] => b
  | b, .read a _ :: l => (b.afterRead a).perform l
  | b, .write a v :: l => (b.afterWrite a v).perform l

/-- Exactly the accesses `l` are made, in order, whatever the bus: the bus is what they leave, and what it answered is
what `l` says (20_memory.md R76, R78, R81). -/
def Accesses (l : List BusAccess) (s t : State) : Prop := t.bus = s.bus.perform l ∧ t.bus.trace = s.bus.trace ++ l

/-- The instruction is `len` bytes, makes no jump, and costs `cost` cycles (10_state.md R38, R44, R49). -/
def Advances (len cost : Nat) (s t : State) : Prop :=
  t.regs.pc = s.regs.pc + BitVec.ofNat 16 len ∧ t.tick = s.tick + BitVec.ofNat 16 cost ∧
    t.scratch = { bc := len, jumped := false, extraCycles := 0, cost := cost }

/-- The instruction of `len` bytes jumps to `target` and costs `cost` cycles, `bonus` of them extra (R38, R44, R48, R49). -/
def Transfers (target : Word) (len cost bonus : Nat) (s t : State) : Prop :=
  t.regs.pc = target ∧ t.tick = s.tick + BitVec.ofNat 16 cost ∧
    t.scratch = { bc := len, jumped := true, extraCycles := bonus, cost := cost }

/-- The pending set that a step from `s` samples, after the host's input (60_exceptions.md R403, R417). -/
def State.sampledPending (s : State) : Byte := s.beginStep.pending

/-- The next step dispatches an interrupt (60_exceptions.md R404 step 3). -/
def State.Dispatches (s : State) : Prop := s.fault = none ∧ s.int.ime = true ∧ s.sampledPending ≠ 0

/-- The next step idles (60_exceptions.md R404 step 4). -/
def State.Idles (s : State) : Prop :=
  s.fault = none ∧ (s.int.ime = true → s.sampledPending = 0) ∧
    (s.int.halted = true ∧ s.sampledPending = 0 ∨ s.int.stopped = true ∧ s.nextInput.stopWake = false)

/-- The next step executes an instruction (60_exceptions.md R404 step 5). -/
def State.Executes (s : State) : Prop :=
  s.fault = none ∧ (s.int.ime = true → s.sampledPending = 0) ∧ (s.int.halted = true → s.sampledPending ≠ 0) ∧
    (s.int.stopped = true → s.nextInput.stopWake = true)

/-- What three reads from PC on give, one after another: all that a fetch can read. -/
def State.bytesAtPc (s : State) : List Byte :=
  let r := s.bus.afterRead s.regs.pc
  [s.bus.readByte s.regs.pc, r.readByte (s.regs.pc + 1), (r.afterRead (s.regs.pc + 1)).readByte (s.regs.pc + 2)]

/-- The bus reads that fetch the first `k` of these bytes, in address order (30_encoding.md R103). -/
def State.readsAtPc (s : State) (k : Nat) : List BusAccess :=
  (List.zipWith BusAccess.read [s.regs.pc, s.regs.pc + 1, s.regs.pc + 2] s.bytesAtPc).take k

/-- The bytes the next step's fetch can read, once the host's input is in. -/
def State.nextBytes (s : State) : List Byte := s.beginStep.bytesAtPc

/-- The opcode the next step would read. -/
def State.nextOpcode (s : State) : Byte := s.beginStep.readByte s.regs.pc

/-- The bus reads of the next step's fetch of `k` bytes. -/
def State.fetchReads (s : State) (k : Nat) : List BusAccess := s.beginStep.readsAtPc k

/-- The truth of a condition field: bit 1 picks Z or C, bit 0 the value it must have (30_encoding.md R107, 45_control.md
R320). -/
def conditionHolds (cc : BitVec 2) (s : State) : Bool :=
  s.flag (if cc.getLsbD 1 then .C else .Z) == cc.getLsbD 0

/-- The invariant of every state a step reaches: memory in canonical form; F's low nibble 0 (10_state.md R34); not both
Halted and Stopped (60_exceptions.md R433); TickCounter a multiple of 4 (70_reset_and_hazards.md R464); a fault mark names
an illegal opcode (60_exceptions.md R420). -/
abbrev State.Inv (s : State) : Prop :=
  s.bus.mem.wf ∧ s.r8 .F &&& 0x0F = 0 ∧ (s.int.halted && s.int.stopped) = false ∧ s.tick.toNat % 4 = 0 ∧
    s.fault.all (fun | .illegalOpcode _ op => illegalOpcodes.contains op) = true

end Sys2Proof.Machine
end

