-- ==== Sys2Proof/Certificates/Slice0/Obligations.lean ====
section
/-! DEFINITION. The statements, from the spec's numbered rules. Each instruction statement gives the bits the spec encodes
the instruction in, the next state's registers, flags, bus accesses, PC, cycles, and everything left alone, for every bus
(20_memory.md R70). The clauses `Stores` and `KeepsBytesOutside` say what this makes of the bytes of a plain RAM, the
instance that `State.reset` has (log entry 1). -/

open Sys2Proof Sys2Proof.Machine

/-- The byte that the last of these stores puts at `a`, or what was there. -/
def lastStored (stores : List (Word × Byte)) (a : Word) (before : Byte) : Byte :=
  ((stores.filter (·.1 == a)).getLast?.map (·.2)).getD before

/-! ## Encoding -/

/-- Decoding the encoding of a well-formed instruction gives it back, and leaves the bytes after it (30_encoding.md R100,
R103, R112 to R114). -/
def Obligations.DecodeEncodeRoundTrip : Prop :=
  ∀ (i : Instr) (rest : List Byte), i.wf = true → decode (encode i ++ rest) = .ok (i, rest)

/-- Whatever bytes decode are the encoding of the instruction they decode to: no two words share a meaning, and no bit of
a word is dropped (30_encoding.md R103, R116, R117). -/
def Obligations.EncodeDecodeRoundTrip : Prop :=
  ∀ (bytes rest : List Byte) (i : Instr), decode bytes = .ok (i, rest) → i.wf = true ∧ bytes = encode i ++ rest

/-- One or more words of every family, written out from the spec's encodings (30_encoding.md R113, R114). -/
def Obligations.DecodedWordsOfEveryFamily : Prop :=
  decode [0b01000001] = .ok (.ldBC, []) ∧ decode [0b00111110, 0x7F] = .ok (.ldAd8 0x7F, []) ∧
  decode [0b11101010, 0x34, 0x12] = .ok (.ldAtA16A 0x1234, []) ∧ decode [0b00110010] = .ok (.ldAtHLDecA, []) ∧
  decode [0b00110001, 0xFE, 0xFF] = .ok (.ldSPd16 0xFFFE, []) ∧ decode [0b11110101] = .ok (.pushAF, []) ∧
  decode [0b10011100] = .ok (.sbcAH, []) ∧ decode [0b00110100] = .ok (.incAtHL, []) ∧
  decode [0b00111001] = .ok (.addHLSP, []) ∧ decode [0b11101000, 0x02] = .ok (.addSPe8 0x02, []) ∧
  decode [0b00011111] = .ok (.rra, []) ∧ decode [0b11001011, 0b00110111] = .ok (.swapA, []) ∧
  decode [0b11001011, 0b01100110] = .ok (.bit4AtHL, []) ∧ decode [0b11001011, 0b11001011] = .ok (.set1E, []) ∧
  decode [0b00111000, 0x80] = .ok (.jrCe8 0x80, []) ∧ decode [0b11001101, 0x00, 0x01] = .ok (.calla16 0x0100, []) ∧
  decode [0b11011001] = .ok (.reti, []) ∧ decode [0b01110110] = .ok (.halt, []) ∧
  decode [0b11010011] = .ok (.illegalD3, [])

/-- The decoder is total: the first byte alone fixes a length of 1, 2 or 3 (2 for 0xCB), three bytes always decode, and
the instruction raises the fault exactly for the 11 illegal values (30_encoding.md R103, R115, R117). -/
def Obligations.DecoderIsTotal : Prop :=
  ∀ op : Byte, ∃ k : Nat, 1 ≤ k ∧ k ≤ 3 ∧ (op = 0xCB → k = 2) ∧
    ∀ (a b : Byte) (rest : List Byte), ∃ i, decode (op :: a :: b :: rest) = .ok (i, (op :: a :: b :: rest).drop k) ∧
      ∀ s t : State, s.fault = none → exec i s = .next t →
        (t.fault ≠ none ↔ op ∈ ([0xD3, 0xDB, 0xDD, 0xE3, 0xE4, 0xEB, 0xEC, 0xED, 0xF4, 0xFC, 0xFD] : List Byte))

/-! ## Reset and the invariant -/

/-- The construction state: the registers from `BOOT_REGS` with AF's low four bits masked, the bus as it is given,
everything else as the table of 10_state.md R52 has it, and the table's default values. -/
def Obligations.ResetState : Prop :=
  (∀ (b : BootRegs) (p : Params) (bus : Bus), ∃ s, s = State.resetWith b p bus ∧ s.regs.af = b.af &&& 0xFFF0 ∧
    s.regs.bc = b.bc ∧ s.regs.de = b.de ∧ s.regs.hl = b.hl ∧ s.regs.sp = b.sp ∧ s.regs.pc = b.pc ∧ s.int.ime = false ∧
    s.int.eiPending = false ∧ s.int.halted = false ∧ s.int.stopped = false ∧ s.tick = 0 ∧ s.fault = none ∧
    s.bus = bus) ∧
  State.reset = State.resetWith BootRegs.dmg State.reset.params State.reset.bus ∧ State.reset.regs.af = 0x01B0 ∧
    State.reset.regs.bc = 0x0013 ∧ State.reset.regs.de = 0x00D8 ∧ State.reset.regs.hl = 0x014D ∧
    State.reset.regs.sp = 0xFFFE ∧ State.reset.regs.pc = 0x0100

/-- Every construction state whose bus bytes are in canonical form (the model's own, log entry 2) meets the
invariant, `State.reset` among them. -/
def Obligations.ResetMeetsInvariant : Prop :=
  (∀ (b : BootRegs) (p : Params) (bus : Bus), bus.mem.wf → (State.resetWith b p bus).Inv) ∧ State.reset.Inv

/-- Every step keeps the invariant: canonical memory, F's low nibble 0 (10_state.md R34, R42), not both Halted and Stopped
(60_exceptions.md R433), TickCounter a multiple of 4 (70_reset_and_hazards.md R464), only illegal opcodes marked. -/
def Obligations.StepKeepsInvariant : Prop := ∀ s t : State, s.Inv → step s = .next t → t.Inv

/-! ## The step machine -/

/-- No step stops: there is no exception, trap or abort but the fault mark, which is a state (60_exceptions.md R400, R422;
20_memory.md R71). -/
def Obligations.StepAlwaysAnswersNext : Prop := ∀ s : State, ∃ t, step s = .next t

/-- A step that executes is `exec` of the instruction at PC, on the state after the wakes, the queued enable and the fetch
(60_exceptions.md R404, R410, R411; 30_encoding.md R103; 20_memory.md R84). That the host's input comes first is the
model's choice, log entry 5. -/
def Obligations.StepRunsDecodedInstruction : Prop :=
  ∀ (s : State) (i : Instr) (rest : List Byte), s.Executes → decode s.nextBytes = .ok (i, rest) →
    ∃ u : State, u.regs = s.regs ∧ u.tick = s.tick ∧ u.fault = none ∧ u.params = s.params ∧ u.inputs = s.inputs.tail ∧
      u.int = { ime := s.int.ime || s.int.eiPending, eiPending := false, halted := false, stopped := false } ∧
      Accesses (s.fetchReads (3 - rest.length)) s.beginStep u ∧
      ∃ t, exec i u = .next t ∧ (t.fault = none → step s = .next t)

/-- What other agents do between two steps comes in before a step samples anything (60_exceptions.md R417, R435): the host
input's bytes are stored, the last store at an address winning, then its IF bits are set; no other byte, and nothing of the
core's state, changes; with no input left, no byte changes. The queue and the order are the model's choice, log entry 5. -/
def Obligations.HostInputComesBeforeTheStep : Prop :=
  ∀ s : State, s.bus.mem.wf →
    (∀ a, s.beginStep.byteAt a =
      lastStored s.nextInput.stores a (s.byteAt a) ||| (if a = 0xFF0F then s.nextInput.ifSet else 0)) ∧
    (s.inputs = [] → ∀ a, s.beginStep.byteAt a = s.byteAt a) ∧
    s.beginStep.bus.answers = s.bus.answers ∧ s.beginStep.bus.trace = [] ∧ s.beginStep.regs = s.regs ∧
    s.beginStep.int = s.int ∧ s.beginStep.tick = s.tick ∧ s.beginStep.fault = s.fault ∧
    s.beginStep.params = s.params ∧ s.beginStep.inputs = s.inputs.tail

/-- Once the fault mark is set, every step, and every run of steps, returns the state unchanged (60_exceptions.md R421). -/
def Obligations.FaultedMachineIsStuck : Prop :=
  ∀ (s : State) (k : Nat), s.fault ≠ none → step s = .next s ∧ Host.Core.run Sys2Proof.core k s = .next s

/-- An illegal opcode: the instruction sets the fault mark and nothing else; the step keeps the core state it started from,
charges nothing, and its one bus access is the opcode read (46_system.md R366, 60_exceptions.md R420). -/
def Obligations.IllegalOpcodeStopsTheCore : Prop :=
  ∀ (s : State) (op : Byte),
    op ∈ ([0xD3, 0xDB, 0xDD, 0xE3, 0xE4, 0xEB, 0xEC, 0xED, 0xF4, 0xFC, 0xFD] : List Byte) →
    (∃ i, decode [op] = .ok (i, []) ∧ exec i s = .next { s with fault := some (.illegalOpcode s.regs.pc op) }) ∧
    (s.Executes → s.nextOpcode = op →
      step s = .next { s with
        fault := some (.illegalOpcode s.regs.pc op)
        bus := s.beginStep.bus.perform [.read s.regs.pc op]
        inputs := s.inputs.tail })

/-- Interrupt dispatch: the lowest pending bit i wins, IME and IF bit i are cleared, PC is pushed, PC is the vector, 20
cycles; Stopped stays unless `stopWake` is given, eiPending and every other register stay (60_exceptions.md R407, R408;
R406, R405 for the wakes). That the pushed bytes read back is the plain RAM's (log entry 1: R70, R402, D13). -/
def Obligations.InterruptDispatch : Prop :=
  (∀ s : State, s.Dispatches →
    ∃ i < 5, s.sampledPending.getLsbD i = true ∧ ∀ j < i, s.sampledPending.getLsbD j = false) ∧
  ∀ (s : State) (i : Nat), s.Dispatches → i < 5 → s.sampledPending.getLsbD i = true →
    (∀ j < i, s.sampledPending.getLsbD j = false) →
    ∃ t, step s = .next t ∧ t.regs.pc = BitVec.ofNat 16 (0x40 + 8 * i) ∧ t.regs.sp = s.regs.sp - 2 ∧
      KeepsReg8 [] s t ∧ t.tick = s.tick + 20 ∧ t.scratch.cost = 20 ∧ t.fault = none ∧ t.params = s.params ∧
      t.inputs = s.inputs.tail ∧
      t.int = { ime := false, eiPending := s.int.eiPending, halted := false,
                stopped := s.int.stopped && !s.nextInput.stopWake } ∧
      Accesses [.write (s.regs.sp - 1) (hi8 s.regs.pc), .write (s.regs.sp - 2) (lo8 s.regs.pc)]
        (s.beginStep.ifClear i) t ∧
      KeepsBytesOutside [s.regs.sp - 1, s.regs.sp - 2, 0xFF0F] s.beginStep t ∧
      Stores (s.regs.sp - 1) (hi8 s.regs.pc) s t ∧ Stores (s.regs.sp - 2) (lo8 s.regs.pc) s t ∧
      (∀ a, a ≠ 0xFF0F → (s.beginStep.ifClear i).byteAt a = s.beginStep.byteAt a) ∧
      (s.bus.mem.wf → ∀ j < 8,
        ((s.beginStep.ifClear i).bus.ifView).getLsbD j = (s.beginStep.bus.ifView.getLsbD j && j != i)) ∧
      (s.PlainRam → 0xFF0F ∉ [s.regs.sp - 1, s.regs.sp - 2] → t.bus.ifView = (s.beginStep.ifClear i).bus.ifView)

/-- An idle step: 4 cycles, no bus access, no register changed, eiPending not applied (60_exceptions.md R409). -/
def Obligations.IdleStep : Prop :=
  ∀ s : State, s.Idles →
    ∃ t, step s = .next t ∧ t.regs = s.regs ∧ t.tick = s.tick + 4 ∧ t.scratch.cost = 4 ∧ t.fault = none ∧
      t.params = s.params ∧ t.inputs = s.inputs.tail ∧ Accesses [] s.beginStep t ∧
      t.int = { ime := s.int.ime, eiPending := s.int.eiPending, halted := s.int.halted && s.sampledPending == 0,
                stopped := s.int.stopped && !s.nextInput.stopWake }

/-- HALT's wake without service: with IME false and something pending, the step clears Halted and executes the next
instruction as a running machine would, with no dispatch and no IF bit cleared by the wake (60_exceptions.md R406). -/
def Obligations.HaltWakesWithoutService : Prop :=
  ∀ s : State, s.fault = none → s.int.halted = true → s.int.stopped = false → s.int.ime = false →
    s.sampledPending ≠ 0 → s.nextOpcode ∉ illegalOpcodes →
    s.Executes ∧ step s = step { s with int := { s.int with halted := false } } ∧
      ∃ t, step s = .next t ∧ (t.int.halted = true ↔ s.nextOpcode = 0x76)

/-- The queued enable: the step after EI applies it and runs its instruction whatever is pending; IME is true for the
step after, unless that instruction is DI; only another EI queues again (60_exceptions.md R410, 70_reset_and_hazards.md
R470). -/
def Obligations.QueuedEnableTakesEffectOneStepLater : Prop :=
  ∀ s : State, s.fault = none → s.int.ime = false → s.int.eiPending = true → s.int.halted = false →
    s.int.stopped = false → s.nextOpcode ∉ illegalOpcodes →
    s.Executes ∧ ∃ t, step s = .next t ∧ (t.int.ime = true ↔ s.nextOpcode ≠ 0xF3) ∧
      (t.int.eiPending = true ↔ s.nextOpcode = 0xFB)

/-- Every change of IME and of eiPending has one of the causes of the table of 60_exceptions.md R416. -/
def Obligations.MasterEnableChangesOnlyAsListed : Prop :=
  ∀ s t : State, step s = .next t →
    (s.int.ime = false → t.int.ime = true →
      s.Executes ∧ (s.int.eiPending = true ∨ s.nextOpcode = 0xD9)) ∧
    (s.int.ime = true → t.int.ime = false → s.Dispatches ∨ s.Executes ∧ s.nextOpcode = 0xF3) ∧
    (s.int.eiPending = false → t.int.eiPending = true → s.Executes ∧ s.nextOpcode = 0xFB) ∧
    (s.int.eiPending = true → t.int.eiPending = false → s.Executes)

/-- Halted is entered only by HALT and left only when something is pending; Stopped is entered only by STOP and left only
by the host's `stopWake` (60_exceptions.md R405, R406, R433). -/
def Obligations.LowPowerStatesChangeOnlyAsListed : Prop :=
  ∀ s t : State, step s = .next t →
    (s.int.halted = false → t.int.halted = true → s.Executes ∧ s.nextOpcode = 0x76) ∧
    (s.int.halted = true → t.int.halted = false → s.sampledPending ≠ 0) ∧
    (s.int.stopped = false → t.int.stopped = true → s.Executes ∧ s.nextOpcode = 0x10) ∧
    (s.int.stopped = true → t.int.stopped = false → s.nextInput.stopWake = true)

/-- A step that does not fault adds its cost to TickCounter, modulo 65536; the cost is a multiple of 4 from 4 to 24; a
faulted step leaves TickCounter alone (60_exceptions.md R412, 70_reset_and_hazards.md R464). -/
def Obligations.TickAdvancesByStepCost : Prop :=
  ∀ s t : State, step s = .next t →
    (t.fault = none → t.tick.toNat = (s.tick.toNat + t.scratch.cost) % 65536 ∧ t.scratch.cost % 4 = 0 ∧
      4 ≤ t.scratch.cost ∧ t.scratch.cost ≤ 24) ∧
    (t.fault ≠ none → t.tick = s.tick)

/-- The cost of every instruction is its base-table entry, plus the CB table's entry, plus the bonus of a taken conditional
transfer: 4 for JR cc and JP cc, 12 for CALL cc and RET cc (70_reset_and_hazards.md R460 to R463). -/
def Obligations.CycleTablesGiveEveryCost : Prop :=
  ∀ (op : Byte) (bytes rest : List Byte) (i : Instr) (s t : State), decode (op :: bytes) = .ok (i, rest) →
    op ∉ illegalOpcodes → exec i s = .next t →
    t.scratch.cost = baseCost op + t.scratch.extraCycles + (if op = 0xCB then cbBase (bytes.headD 0) else 0) ∧
    t.scratch.extraCycles =
      if t.scratch.jumped = false then 0
      else if op ∈ ([0x20, 0x28, 0x30, 0x38, 0xC2, 0xCA, 0xD2, 0xDA] : List Byte) then 4
      else if op ∈ ([0xC4, 0xCC, 0xD4, 0xDC, 0xC0, 0xC8, 0xD0, 0xD8] : List Byte) then 12
      else 0

/-- An instruction makes at most two data accesses after its fetches, and a step at most five accesses (20_memory.md R76);
without a write a plain RAM keeps every byte (60_exceptions.md R402, log entry 1). -/
def Obligations.AccessesOfAStepAreBounded : Prop :=
  (∀ (i : Instr) (s t : State), exec i s = .next t →
    ∃ l, Accesses l s t ∧ l.length ≤ 2 ∧
      ((∀ a v, BusAccess.write a v ∉ l) → KeepsBytesOutside [] s t)) ∧
  ∀ s t : State, step s = .next t → s.fault = none → t.bus.trace.length ≤ 5

/-- `withFetchWord` makes the next step execute the instruction its word decodes to. The model's own (log entry 10). -/
def Obligations.FetchWordIsWhatTheNextStepRuns : Prop :=
  ∀ (s : State) (nbits w : Nat) (i : Instr), s.bus.mem.wf → decodeTableWord nbits w = some i →
    (s.withFetchWord nbits w).Executes ∧ (s.withFetchWord nbits w).regs = s.regs ∧
      ∃ rest, decode (s.withFetchWord nbits w).nextBytes = .ok (i, rest)

/-- Every instruction completes, and none touches the parameters or the inputs; only the illegal opcodes set the fault
mark; an instruction changes IME, eiPending, Halted or Stopped only as its own rule says (60_exceptions.md R411, R416,
R433). -/
def Obligations.EveryInstructionCompletes : Prop :=
  ∀ (i : Instr) (s : State), ∃ t, exec i s = .next t ∧ t.params = s.params ∧ t.inputs = s.inputs ∧
    (t.fault = s.fault ∨ ∃ op ∈ illegalOpcodes, encode i = [op] ∧ t.fault = some (.illegalOpcode s.regs.pc op)) ∧
    (i ≠ .reti → i ≠ .di → t.int.ime = s.int.ime) ∧ (i ≠ .ei → t.int.eiPending = s.int.eiPending) ∧
    (i ≠ .halt → t.int.halted = s.int.halted) ∧ (i ≠ .stop → t.int.stopped = s.int.stopped)

/-! ## 8-bit loads -/

/-- LD r,r' (40_load8.md R140): the 49 opcodes `01 yyy zzz`. -/
def Obligations.LoadRegisterFromRegister : Prop :=
  ∀ (y z : BitVec 3) (d r : Reg8) (rest : List Byte) (s : State),
    Operand8.ofField y = .reg d → Operand8.ofField z = .reg r →
    ∃ i t, decode ((0b01#2 ++ y ++ z) :: rest) = .ok (i, rest) ∧ exec i s = .next t ∧
      t.r8 d = s.r8 r ∧ OnlyReg8 [d] s t ∧ KeepsBytesOutside [] s t ∧ Accesses [] s t ∧ Advances 1 4 s t

/-- LD r,d8 (40_load8.md R141): the 7 opcodes `00 yyy 110`. -/
def Obligations.LoadRegisterFromImmediate : Prop :=
  ∀ (y : BitVec 3) (d : Reg8) (n : Byte) (rest : List Byte) (s : State), Operand8.ofField y = .reg d →
    ∃ i t, decode ((0b00#2 ++ y ++ 0b110#3) :: n :: rest) = .ok (i, rest) ∧ exec i s = .next t ∧
      t.r8 d = n ∧ OnlyReg8 [d] s t ∧ KeepsBytesOutside [] s t ∧ Accesses [] s t ∧ Advances 2 8 s t

/-- LD r,(HL) (40_load8.md R142): the 7 opcodes `01 yyy 110`. The old HL is the address. -/
def Obligations.LoadRegisterFromMemory : Prop :=
  ∀ (y : BitVec 3) (d : Reg8) (rest : List Byte) (s : State), Operand8.ofField y = .reg d →
    ∃ i t, decode ((0b01#2 ++ y ++ 0b110#3) :: rest) = .ok (i, rest) ∧ exec i s = .next t ∧
      t.r8 d = s.readByte s.regs.hl ∧ OnlyReg8 [d] s t ∧ KeepsBytesOutside [] s t ∧
      Accesses [.read s.regs.hl (s.readByte s.regs.hl)] s t ∧ Advances 1 8 s t

/-- LD (HL),r and LD (HL),d8 (40_load8.md R143, R144): `01 110 zzz` and 0x36. One write, whatever the bus; that the byte
reads back is the plain RAM's (log entry 1: R70, R402, D13). -/
def Obligations.StoreToMemoryAtHL : Prop :=
  (∀ (z : BitVec 3) (r : Reg8) (rest : List Byte) (s : State), Operand8.ofField z = .reg r →
    ∃ i t, decode ((0b01110#5 ++ z) :: rest) = .ok (i, rest) ∧ exec i s = .next t ∧
      Stores s.regs.hl (s.r8 r) s t ∧ KeepsBytesOutside [s.regs.hl] s t ∧ OnlyReg8 [] s t ∧
      Accesses [.write s.regs.hl (s.r8 r)] s t ∧ Advances 1 8 s t) ∧
  ∀ (n : Byte) (rest : List Byte) (s : State),
    ∃ i t, decode (0b00110110 :: n :: rest) = .ok (i, rest) ∧ exec i s = .next t ∧
      Stores s.regs.hl n s t ∧ KeepsBytesOutside [s.regs.hl] s t ∧ OnlyReg8 [] s t ∧
      Accesses [.write s.regs.hl n] s t ∧ Advances 2 12 s t

/-- The encodings of a load or store of A at an address other than HL, with the address, the bytes after the opcode, the
length and the cycles (40_load8.md R145 to R154): `q` is bit 3 or bit 4, whichever tells loads from stores. -/
def addressedForms (s : State) (n : Byte) (nn : Word) : List (Byte × Byte × List Byte × Word × Nat × Nat) :=
  [(0x0A, 0x02, [], s.regs.bc, 1, 8), (0x1A, 0x12, [], s.regs.de, 1, 8), (0xFA, 0xEA, [lo8 nn, hi8 nn], nn, 3, 16),
   (0xF0, 0xE0, [n], cat16 0xFF n, 2, 12), (0xF2, 0xE2, [], cat16 0xFF (s.r8 .C), 1, 8)]

/-- LD A,(BC), LD A,(DE), LD A,(a16), LDH A,(a8), LD A,(C) (40_load8.md R145, R146, R149, R151, R153). -/
def Obligations.LoadAFromAddress : Prop :=
  ∀ (n : Byte) (nn : Word) (rest : List Byte) (s : State) (load store : Byte) (operand : List Byte) (a : Word)
    (len cost : Nat), (load, store, operand, a, len, cost) ∈ addressedForms s n nn →
    ∃ i t, decode (load :: (operand ++ rest)) = .ok (i, rest) ∧ exec i s = .next t ∧
      t.r8 .A = s.readByte a ∧ OnlyReg8 [.A] s t ∧ KeepsBytesOutside [] s t ∧ Accesses [.read a (s.readByte a)] s t ∧
      Advances len cost s t

/-- LD (BC),A, LD (DE),A, LD (a16),A, LDH (a8),A, LD (C),A (40_load8.md R147, R148, R150, R152, R154). One write, whatever
the bus; that the byte reads back is the plain RAM's (log entry 1: R70, R402, D13). -/
def Obligations.StoreAToAddress : Prop :=
  ∀ (n : Byte) (nn : Word) (rest : List Byte) (s : State) (load store : Byte) (operand : List Byte) (a : Word)
    (len cost : Nat), (load, store, operand, a, len, cost) ∈ addressedForms s n nn →
    ∃ i t, decode (store :: (operand ++ rest)) = .ok (i, rest) ∧ exec i s = .next t ∧
      Stores a (s.r8 .A) s t ∧ KeepsBytesOutside [a] s t ∧ OnlyReg8 [] s t ∧
      Accesses [.write a (s.r8 .A)] s t ∧ Advances len cost s t

/-- LD (HL+),A, LD (HL-),A, LD A,(HL+), LD A,(HL-) (40_load8.md R155 to R158): the old HL is the address; no flag
changes. That the byte stored reads back is the plain RAM's (log entry 1: R70, R402, D13). -/
def Obligations.LoadAndStoreWithHLStep : Prop :=
  ∀ (down : Bool) (rest : List Byte) (s : State),
    (∃ i t, decode ((if down then 0b00110010 else 0b00100010) :: rest) = .ok (i, rest) ∧ exec i s = .next t ∧
      Stores s.regs.hl (s.r8 .A) s t ∧ KeepsBytesOutside [s.regs.hl] s t ∧
      t.regs.hl = (if down then s.regs.hl - 1 else s.regs.hl + 1) ∧ OnlyReg8 [.H, .L] s t ∧
      Accesses [.write s.regs.hl (s.r8 .A)] s t ∧ Advances 1 8 s t) ∧
    (∃ i t, decode ((if down then 0b00111010 else 0b00101010) :: rest) = .ok (i, rest) ∧ exec i s = .next t ∧
      t.r8 .A = s.readByte s.regs.hl ∧ KeepsBytesOutside [] s t ∧
      t.regs.hl = (if down then s.regs.hl - 1 else s.regs.hl + 1) ∧ OnlyReg8 [.A, .H, .L] s t ∧
      Accesses [.read s.regs.hl (s.readByte s.regs.hl)] s t ∧ Advances 1 8 s t)

/-! ## 16-bit loads and the stack -/

/-- LD rr,d16 and LD SP,HL (41_load16.md R180, R182). -/
def Obligations.LoadPairs : Prop :=
  (∀ (p : BitVec 2) (nn : Word) (rest : List Byte) (s : State),
    ∃ i t, decode ((0b00#2 ++ p ++ 0b0001#4) :: lo8 nn :: hi8 nn :: rest) = .ok (i, rest) ∧ exec i s = .next t ∧
      t.r16 (pairOfField p) = nn ∧ OnlyReg16 [pairOfField p] s t ∧ KeepsBytesOutside [] s t ∧ Accesses [] s t ∧
      Advances 3 12 s t) ∧
  ∀ (rest : List Byte) (s : State),
    ∃ i t, decode (0b11111001 :: rest) = .ok (i, rest) ∧ exec i s = .next t ∧ t.regs.sp = s.regs.hl ∧
      OnlyReg16 [.SP] s t ∧ KeepsBytesOutside [] s t ∧ Accesses [] s t ∧ Advances 1 8 s t

/-- LD (a16),SP (41_load16.md R181): the low byte at a16, the high byte at a16 + 1, which wraps. That both read back is the
plain RAM's (log entry 1: R70, R402, D13). -/
def Obligations.StoreStackPointer : Prop :=
  ∀ (nn : Word) (rest : List Byte) (s : State),
    ∃ i t, decode (0b00001000 :: lo8 nn :: hi8 nn :: rest) = .ok (i, rest) ∧ exec i s = .next t ∧
      Stores nn (lo8 s.regs.sp) s t ∧ Stores (nn + 1) (hi8 s.regs.sp) s t ∧
      KeepsBytesOutside [nn, nn + 1] s t ∧ OnlyReg8 [] s t ∧
      Accesses [.write nn (lo8 s.regs.sp), .write (nn + 1) (hi8 s.regs.sp)] s t ∧ Advances 3 20 s t

/-- ADD SP,e8 and LD HL,SP+e8 (43_alu16.md R260, R264; 41_load16.md R183): the sum with the signed offset, Z and N 0, H and
C from the unsigned sum of SP's low byte and e8. -/
def Obligations.StackPointerPlusOffset : Prop :=
  ∀ (n : Byte) (rest : List Byte) (s : State),
    (∃ i t, decode (0b11101000 :: n :: rest) = .ok (i, rest) ∧ exec i s = .next t ∧
      t.regs.sp = BitVec.ofInt 16 (s.regs.sp.toNat + n.toInt) ∧
      t.r8 .F = flagByte false false (decide (s.regs.sp.toNat % 16 + n.toNat % 16 > 15))
        (decide (s.regs.sp.toNat % 256 + n.toNat > 255)) ∧
      KeepsReg8 [.F] s t ∧ KeepsControl s t ∧ KeepsBytesOutside [] s t ∧ Accesses [] s t ∧ Advances 2 16 s t) ∧
    (∃ i t, decode (0b11111000 :: n :: rest) = .ok (i, rest) ∧ exec i s = .next t ∧
      t.regs.hl = BitVec.ofInt 16 (s.regs.sp.toNat + n.toInt) ∧
      t.r8 .F = flagByte false false (decide (s.regs.sp.toNat % 16 + n.toNat % 16 > 15))
        (decide (s.regs.sp.toNat % 256 + n.toNat > 255)) ∧
      OnlyReg8 [.F, .H, .L] s t ∧ KeepsBytesOutside [] s t ∧ Accesses [] s t ∧ Advances 2 12 s t)

/-- PUSH qq (41_load16.md R184): high byte at SP-1, low byte at SP-2, SP down by 2. That both read back is the plain RAM's
(log entry 1: R70, R402, D13). -/
def Obligations.PushPair : Prop :=
  ∀ (p : BitVec 2) (v : Word) (rest : List Byte) (s : State), v = s.r16 (stackPairOfField p) →
    ∃ i t, decode ((0b11#2 ++ p ++ 0b0101#4) :: rest) = .ok (i, rest) ∧ exec i s = .next t ∧
      t.regs.sp = s.regs.sp - 2 ∧
      Stores (s.regs.sp - 1) (hi8 v) s t ∧ Stores (s.regs.sp - 2) (lo8 v) s t ∧
      KeepsBytesOutside [s.regs.sp - 1, s.regs.sp - 2] s t ∧ OnlyReg16 [.SP] s t ∧
      Accesses [.write (s.regs.sp - 1) (hi8 v), .write (s.regs.sp - 2) (lo8 v)] s t ∧ Advances 1 16 s t

/-- POP qq and POP AF (41_load16.md R185, R186): low byte from SP, high byte from SP+1, SP up by 2; for AF the low four
bits of F read 0. -/
def Obligations.PopPair : Prop :=
  ∀ (p : BitVec 2) (lo hi : Byte) (rest : List Byte) (s : State), lo = s.readByte s.regs.sp →
    hi = (s.memRead s.regs.sp).2.readByte (s.regs.sp + 1) →
    ∃ i t, decode ((0b11#2 ++ p ++ 0b0001#4) :: rest) = .ok (i, rest) ∧ exec i s = .next t ∧
      t.r16 (stackPairOfField p) = cat16 hi (if p = 3 then lo &&& 0xF0 else lo) ∧ t.regs.sp = s.regs.sp + 2 ∧
      OnlyReg16 [stackPairOfField p, .SP] s t ∧ KeepsBytesOutside [] s t ∧
      Accesses [.read s.regs.sp lo, .read (s.regs.sp + 1) hi] s t ∧ Advances 1 12 s t

/-! ## 8-bit arithmetic and logic -/

/-- The three encodings of an ALU operation with field `ooo`, and the operand each gives (42_alu8.md R210): a register, the
byte at HL, an immediate. `effect b` relates the states before and after for the operand `b`. -/
def AluForms (ooo : BitVec 3) (effect : Byte → State → State → Prop) : Prop :=
  (∀ (z : BitVec 3) (r : Reg8) (rest : List Byte) (s : State), Operand8.ofField z = .reg r →
    ∃ i t, decode ((0b10#2 ++ ooo ++ z) :: rest) = .ok (i, rest) ∧ exec i s = .next t ∧ effect (s.r8 r) s t ∧
      OnlyReg8 [.A, .F] s t ∧ KeepsBytesOutside [] s t ∧ Accesses [] s t ∧ Advances 1 4 s t) ∧
  (∀ (rest : List Byte) (s : State),
    ∃ i t, decode ((0b10#2 ++ ooo ++ 0b110#3) :: rest) = .ok (i, rest) ∧ exec i s = .next t ∧
      effect (s.readByte s.regs.hl) s t ∧ OnlyReg8 [.A, .F] s t ∧ KeepsBytesOutside [] s t ∧
      Accesses [.read s.regs.hl (s.readByte s.regs.hl)] s t ∧ Advances 1 8 s t) ∧
  ∀ (n : Byte) (rest : List Byte) (s : State),
    ∃ i t, decode ((0b11#2 ++ ooo ++ 0b110#3) :: n :: rest) = .ok (i, rest) ∧ exec i s = .next t ∧ effect n s t ∧
      OnlyReg8 [.A, .F] s t ∧ KeepsBytesOutside [] s t ∧ Accesses [] s t ∧ Advances 2 8 s t

/-- ADD and ADC, all forms (42_alu8.md R211, R212, R220 to R225). -/
def Obligations.AddAndAddWithCarry : Prop :=
  AluForms 0 (fun b s t =>
    t.r8 .A = BitVec.ofNat 8 ((s.r8 .A).toNat + b.toNat) ∧
    t.r8 .F = flagByte (t.r8 .A == 0) false (decide ((s.r8 .A).toNat % 16 + b.toNat % 16 > 15))
      (decide ((s.r8 .A).toNat + b.toNat > 255))) ∧
  AluForms 1 (fun b s t =>
    t.r8 .A = BitVec.ofNat 8 ((s.r8 .A).toNat + b.toNat + (s.flag .C).toNat) ∧
    t.r8 .F = flagByte (t.r8 .A == 0) false (decide ((s.r8 .A).toNat % 16 + b.toNat % 16 + (s.flag .C).toNat > 15))
      (decide ((s.r8 .A).toNat + b.toNat + (s.flag .C).toNat > 255)))

/-- SUB and SBC, all forms (42_alu8.md R213, R214, R226 to R231). -/
def Obligations.SubtractAndSubtractWithCarry : Prop :=
  AluForms 2 (fun b s t =>
    t.r8 .A = BitVec.ofInt 8 ((s.r8 .A).toNat - b.toNat) ∧
    t.r8 .F = flagByte (t.r8 .A == 0) true (decide ((s.r8 .A).toNat % 16 < b.toNat % 16))
      (decide (b.toNat > (s.r8 .A).toNat))) ∧
  AluForms 3 (fun b s t =>
    t.r8 .A = BitVec.ofInt 8 ((s.r8 .A).toNat - b.toNat - (s.flag .C).toNat) ∧
    t.r8 .F = flagByte (t.r8 .A == 0) true (decide ((s.r8 .A).toNat % 16 < b.toNat % 16 + (s.flag .C).toNat))
      (decide (b.toNat + (s.flag .C).toNat > (s.r8 .A).toNat)))

/-- AND, XOR and OR, all forms (42_alu8.md R215 to R217, R232 to R240). -/
def Obligations.BitwiseLogic : Prop :=
  AluForms 4 (fun b s t =>
    (∀ j < 8, (t.r8 .A).getLsbD j = ((s.r8 .A).getLsbD j && b.getLsbD j)) ∧
    t.r8 .F = flagByte (t.r8 .A == 0) false true false) ∧
  AluForms 5 (fun b s t =>
    (∀ j < 8, (t.r8 .A).getLsbD j = ((s.r8 .A).getLsbD j != b.getLsbD j)) ∧
    t.r8 .F = flagByte (t.r8 .A == 0) false false false) ∧
  AluForms 6 (fun b s t =>
    (∀ j < 8, (t.r8 .A).getLsbD j = ((s.r8 .A).getLsbD j || b.getLsbD j)) ∧
    t.r8 .F = flagByte (t.r8 .A == 0) false false false)

/-- CP, all forms (42_alu8.md R218, R241 to R243): SUB's flags, A unchanged, Z exactly when the operands are equal. -/
def Obligations.CompareSetsFlagsOnly : Prop :=
  AluForms 7 (fun b s t =>
    t.r8 .A = s.r8 .A ∧
    t.r8 .F = flagByte (decide (s.r8 .A = b)) true (decide ((s.r8 .A).toNat % 16 < b.toNat % 16))
      (decide (b.toNat > (s.r8 .A).toNat)))

/-- INC r and DEC r (42_alu8.md R244, R246): `00 yyy 100` and `00 yyy 101`. C is unchanged. -/
def Obligations.IncrementAndDecrementRegister : Prop :=
  ∀ (y : BitVec 3) (r : Reg8) (rest : List Byte) (s : State), Operand8.ofField y = .reg r →
    (∃ i t, decode ((0b00#2 ++ y ++ 0b100#3) :: rest) = .ok (i, rest) ∧ exec i s = .next t ∧
      t.r8 r = BitVec.ofNat 8 ((s.r8 r).toNat + 1) ∧
      t.r8 .F = flagByte (t.r8 r == 0) false (decide ((s.r8 r).toNat % 16 = 15)) (s.flag .C) ∧
      OnlyReg8 [r, .F] s t ∧ KeepsBytesOutside [] s t ∧ Accesses [] s t ∧ Advances 1 4 s t) ∧
    (∃ i t, decode ((0b00#2 ++ y ++ 0b101#3) :: rest) = .ok (i, rest) ∧ exec i s = .next t ∧
      t.r8 r = BitVec.ofInt 8 ((s.r8 r).toNat - 1) ∧
      t.r8 .F = flagByte (t.r8 r == 0) true (decide ((s.r8 r).toNat % 16 = 0)) (s.flag .C) ∧
      OnlyReg8 [r, .F] s t ∧ KeepsBytesOutside [] s t ∧ Accesses [] s t ∧ Advances 1 4 s t)

/-- INC (HL) and DEC (HL) (42_alu8.md R245, R247): one read, then one write of the same address. That
the byte reads back is the plain RAM's (log entry 1: R70, R402, D13). -/
def Obligations.IncrementAndDecrementMemory : Prop :=
  ∀ (v res : Byte) (rest : List Byte) (s : State), v = s.readByte s.regs.hl →
    (res = BitVec.ofNat 8 (v.toNat + 1) →
      ∃ i t, decode (0b00110100 :: rest) = .ok (i, rest) ∧ exec i s = .next t ∧
        Stores s.regs.hl res s t ∧ KeepsBytesOutside [s.regs.hl] s t ∧
        t.r8 .F = flagByte (res == 0) false (decide (v.toNat % 16 = 15)) (s.flag .C) ∧ OnlyReg8 [.F] s t ∧
        Accesses [.read s.regs.hl v, .write s.regs.hl res] s t ∧ Advances 1 12 s t) ∧
    (res = BitVec.ofInt 8 (v.toNat - 1) →
      ∃ i t, decode (0b00110101 :: rest) = .ok (i, rest) ∧ exec i s = .next t ∧
        Stores s.regs.hl res s t ∧ KeepsBytesOutside [s.regs.hl] s t ∧
        t.r8 .F = flagByte (res == 0) true (decide (v.toNat % 16 = 0)) (s.flag .C) ∧ OnlyReg8 [.F] s t ∧
        Accesses [.read s.regs.hl v, .write s.regs.hl res] s t ∧ Advances 1 12 s t)

/-- DAA (42_alu8.md R248), as sums of the corrections: 0x60 and 0x06, added after an addition and taken off after a
subtraction. -/
def Obligations.DecimalAdjust : Prop :=
  ∀ (rest : List Byte) (s : State) (a : Nat) (high low : Bool), a = (s.r8 .A).toNat →
    high = (s.flag .C || (!s.flag .N && decide (a > 0x99))) →
    low = (s.flag .H || (!s.flag .N && decide (a % 16 > 0x09))) →
    ∃ i t, decode (0b00100111 :: rest) = .ok (i, rest) ∧ exec i s = .next t ∧
      t.r8 .A = (if s.flag .N then BitVec.ofInt 8 (a - 0x60 * high.toNat - 0x06 * low.toNat)
        else BitVec.ofNat 8 (a + 0x60 * high.toNat + 0x06 * low.toNat)) ∧
      t.r8 .F = flagByte (t.r8 .A == 0) (s.flag .N) false high ∧
      OnlyReg8 [.A, .F] s t ∧ KeepsBytesOutside [] s t ∧ Accesses [] s t ∧ Advances 1 4 s t

/-- The binary-coded decimal byte of a number below 100. -/
def bcd (n : Nat) : Byte := BitVec.ofNat 8 (n / 10 * 16 + n % 10)

/-- DAA after ADD, ADC and SUB of any two binary-coded decimal bytes gives the decimal sum or difference, and C is the
decimal carry or borrow (95_test_vectors.md S9; 42_alu8.md R220, R223, R226, R248). -/
def Obligations.DecimalArithmeticIsCorrect : Prop :=
  ∀ (x y : Nat) (s : State), x < 100 → y < 100 → s.r8 .A = bcd x → s.r8 .B = bcd y →
    (∃ t u, exec .addAB s = .next t ∧ exec .daa t = .next u ∧ u.r8 .A = bcd ((x + y) % 100) ∧
      u.flag .C = decide (x + y ≥ 100) ∧ u.flag .Z = decide ((x + y) % 100 = 0)) ∧
    (∃ t u, exec .adcAB s = .next t ∧ exec .daa t = .next u ∧ u.r8 .A = bcd ((x + y + (s.flag .C).toNat) % 100) ∧
      u.flag .C = decide (x + y + (s.flag .C).toNat ≥ 100) ∧
      u.flag .Z = decide ((x + y + (s.flag .C).toNat) % 100 = 0)) ∧
    (∃ t u, exec .subB s = .next t ∧ exec .daa t = .next u ∧ u.r8 .A = bcd ((x + 100 - y) % 100) ∧
      u.flag .C = decide (x < y) ∧ u.flag .Z = decide (x = y))

/-- CPL, SCF and CCF (42_alu8.md R249 to R251): Z is unchanged by all three, C by CPL. -/
def Obligations.ComplementAndCarryFlag : Prop :=
  ∀ (rest : List Byte) (s : State),
    (∃ i t, decode (0b00101111 :: rest) = .ok (i, rest) ∧ exec i s = .next t ∧
      (∀ j < 8, (t.r8 .A).getLsbD j = !(s.r8 .A).getLsbD j) ∧
      t.r8 .F = flagByte (s.flag .Z) true true (s.flag .C) ∧ OnlyReg8 [.A, .F] s t ∧ KeepsBytesOutside [] s t ∧
      Accesses [] s t ∧ Advances 1 4 s t) ∧
    (∃ i t, decode (0b00110111 :: rest) = .ok (i, rest) ∧ exec i s = .next t ∧
      t.r8 .F = flagByte (s.flag .Z) false false true ∧ OnlyReg8 [.F] s t ∧ KeepsBytesOutside [] s t ∧
      Accesses [] s t ∧ Advances 1 4 s t) ∧
    (∃ i t, decode (0b00111111 :: rest) = .ok (i, rest) ∧ exec i s = .next t ∧
      t.r8 .F = flagByte (s.flag .Z) false false (!s.flag .C) ∧ OnlyReg8 [.F] s t ∧ KeepsBytesOutside [] s t ∧
      Accesses [] s t ∧ Advances 1 4 s t)

/-! ## 16-bit arithmetic -/

/-- ADD HL,rr (43_alu16.md R261): `00 pp1 001`. H and C are the carries out of bits 11 and 15; Z is unchanged. -/
def Obligations.AddPairToHL : Prop :=
  ∀ (p : BitVec 2) (b : Word) (rest : List Byte) (s : State), b = s.r16 (pairOfField p) →
    ∃ i t, decode ((0b00#2 ++ p ++ 0b1001#4) :: rest) = .ok (i, rest) ∧ exec i s = .next t ∧
      t.regs.hl = BitVec.ofNat 16 (s.regs.hl.toNat + b.toNat) ∧
      t.r8 .F = flagByte (s.flag .Z) false (decide (s.regs.hl.toNat % 4096 + b.toNat % 4096 > 4095))
        (decide (s.regs.hl.toNat + b.toNat > 65535)) ∧
      OnlyReg8 [.H, .L, .F] s t ∧ KeepsBytesOutside [] s t ∧ Accesses [] s t ∧ Advances 1 8 s t

/-- INC rr and DEC rr (43_alu16.md R262, R263): `00 pp0 011` and `00 pp1 011`, modulo 2^16, no flag. -/
def Obligations.IncrementAndDecrementPair : Prop :=
  ∀ (p : BitVec 2) (rest : List Byte) (s : State),
    (∃ i t, decode ((0b00#2 ++ p ++ 0b0011#4) :: rest) = .ok (i, rest) ∧ exec i s = .next t ∧
      t.r16 (pairOfField p) = BitVec.ofNat 16 ((s.r16 (pairOfField p)).toNat + 1) ∧ OnlyReg16 [pairOfField p] s t ∧
      KeepsBytesOutside [] s t ∧ Accesses [] s t ∧ Advances 1 8 s t) ∧
    (∃ i t, decode ((0b00#2 ++ p ++ 0b1011#4) :: rest) = .ok (i, rest) ∧ exec i s = .next t ∧
      t.r16 (pairOfField p) = BitVec.ofInt 16 ((s.r16 (pairOfField p)).toNat - 1) ∧ OnlyReg16 [pairOfField p] s t ∧
      KeepsBytesOutside [] s t ∧ Accesses [] s t ∧ Advances 1 8 s t)

/-! ## Rotates, shifts and bits -/

/-- RLCA, RRCA, RLA, RRA (44_rotate_shift_bit.md R280 to R283): Z is forced to 0, C is the bit shifted out. -/
def Obligations.RotateAccumulator : Prop :=
  ∀ (y : BitVec 2) (a res : Nat) (cin out : Bool) (rest : List Byte) (s : State), a = (s.r8 .A).toNat →
    cin = s.flag .C → out = (if y.getLsbD 0 then decide (a % 2 = 1) else decide (a ≥ 128)) →
    res = (if y = 0 then 2 * a % 256 + a / 128 else if y = 1 then a / 2 + 128 * (a % 2)
      else if y = 2 then 2 * a % 256 + cin.toNat else a / 2 + 128 * cin.toNat) →
    ∃ i t, decode ((0b000#3 ++ y ++ 0b111#3) :: rest) = .ok (i, rest) ∧ exec i s = .next t ∧
      (t.r8 .A).toNat = res ∧ t.r8 .F = flagByte false false false out ∧ OnlyReg8 [.A, .F] s t ∧
      KeepsBytesOutside [] s t ∧ Accesses [] s t ∧ Advances 1 4 s t

/-- A CB rotate or shift with field `y` on every operand: a register (8 cycles), or the byte at HL, read and then written
(16 cycles). `result` and `carry` give the new value and C from the old value and the old C; Z is the result test, N and H
are 0 (44_rotate_shift_bit.md R284). -/
def CbShiftForms (y : BitVec 3) (result : Nat → Nat → Nat) (carry : Nat → Bool) : Prop :=
  (∀ (z : BitVec 3) (r : Reg8) (rest : List Byte) (s : State), Operand8.ofField z = .reg r →
    ∃ i t, decode (0xCB :: (0b00#2 ++ y ++ z) :: rest) = .ok (i, rest) ∧ exec i s = .next t ∧
      (t.r8 r).toNat = result (s.r8 r).toNat (s.flag .C).toNat ∧
      t.r8 .F = flagByte (t.r8 r == 0) false false (carry (s.r8 r).toNat) ∧ OnlyReg8 [r, .F] s t ∧
      KeepsBytesOutside [] s t ∧ Accesses [] s t ∧ Advances 2 8 s t) ∧
  ∀ (v res : Byte) (rest : List Byte) (s : State), v = s.readByte s.regs.hl →
    res.toNat = result v.toNat (s.flag .C).toNat →
    ∃ i t, decode (0xCB :: (0b00#2 ++ y ++ 0b110#3) :: rest) = .ok (i, rest) ∧ exec i s = .next t ∧
      Stores s.regs.hl res s t ∧ KeepsBytesOutside [s.regs.hl] s t ∧
      t.r8 .F = flagByte (res == 0) false false (carry v.toNat) ∧ OnlyReg8 [.F] s t ∧
      Accesses [.read s.regs.hl v, .write s.regs.hl res] s t ∧ Advances 2 16 s t

/-- RLC, RRC, RL, RR on registers and (HL) (44_rotate_shift_bit.md R285 to R292). That the byte at HL reads back is the
plain RAM's (log entry 1: R70, R402, D13). -/
def Obligations.CbRotates : Prop :=
  CbShiftForms 0 (fun v _ => 2 * v % 256 + v / 128) (fun v => decide (v ≥ 128)) ∧
  CbShiftForms 1 (fun v _ => v / 2 + 128 * (v % 2)) (fun v => decide (v % 2 = 1)) ∧
  CbShiftForms 2 (fun v c => 2 * v % 256 + c) (fun v => decide (v ≥ 128)) ∧
  CbShiftForms 3 (fun v c => v / 2 + 128 * c) (fun v => decide (v % 2 = 1))

/-- SLA, SRA, SRL on registers and (HL) (44_rotate_shift_bit.md R293 to R296, R299, R300). That the byte at HL reads back
is the plain RAM's (log entry 1: R70, R402, D13). -/
def Obligations.CbShifts : Prop :=
  CbShiftForms 4 (fun v _ => 2 * v % 256) (fun v => decide (v ≥ 128)) ∧
  CbShiftForms 5 (fun v _ => v / 2 + 128 * (v / 128)) (fun v => decide (v % 2 = 1)) ∧
  CbShiftForms 7 (fun v _ => v / 2) (fun v => decide (v % 2 = 1))

/-- SWAP on registers and (HL) (44_rotate_shift_bit.md R297, R298; its C = 0 is the spec's decision D31). That the
byte at HL reads back is the plain RAM's (log entry 1: R70, R402, D13). -/
def Obligations.SwapNibbles : Prop := CbShiftForms 6 (fun v _ => v % 16 * 16 + v / 16) (fun _ => false)

/-- BIT b,r and BIT b,(HL) (44_rotate_shift_bit.md R301, R302): Z is set when the bit is 0, H is 1, C is unchanged, nothing
is written. -/
def Obligations.BitTest : Prop :=
  ∀ (b : BitVec 3) (rest : List Byte) (s : State),
    (∀ (z : BitVec 3) (r : Reg8), Operand8.ofField z = .reg r →
      ∃ i t, decode (0xCB :: (0b01#2 ++ b ++ z) :: rest) = .ok (i, rest) ∧ exec i s = .next t ∧
        t.r8 .F = flagByte (!(s.r8 r).getLsbD b.toNat) false true (s.flag .C) ∧ OnlyReg8 [.F] s t ∧
        KeepsBytesOutside [] s t ∧ Accesses [] s t ∧ Advances 2 8 s t) ∧
    ∃ i t, decode (0xCB :: (0b01#2 ++ b ++ 0b110#3) :: rest) = .ok (i, rest) ∧ exec i s = .next t ∧
      t.r8 .F = flagByte (!(s.readByte s.regs.hl).getLsbD b.toNat) false true (s.flag .C) ∧ OnlyReg8 [.F] s t ∧
      KeepsBytesOutside [] s t ∧ Accesses [.read s.regs.hl (s.readByte s.regs.hl)] s t ∧ Advances 2 12 s t

/-- RES and SET on registers and (HL) (44_rotate_shift_bit.md R303 to R306): one bit written (`set` tells which), every
other bit and every flag kept. That the byte at HL reads back is the plain RAM's (log entry 1: R70, R402, D13). -/
def Obligations.BitResetAndSet : Prop :=
  ∀ (set : Bool) (b : BitVec 3) (rest : List Byte) (s : State),
    (∀ (z : BitVec 3) (r : Reg8), Operand8.ofField z = .reg r →
      ∃ i t, decode (0xCB :: ((if set then 0b11#2 else 0b10#2) ++ b ++ z) :: rest) = .ok (i, rest) ∧
        exec i s = .next t ∧
        (∀ j < 8, (t.r8 r).getLsbD j = if j = b.toNat then set else (s.r8 r).getLsbD j) ∧ OnlyReg8 [r] s t ∧
        KeepsBytesOutside [] s t ∧ Accesses [] s t ∧ Advances 2 8 s t) ∧
    ∃ i t res, decode (0xCB :: ((if set then 0b11#2 else 0b10#2) ++ b ++ 0b110#3) :: rest) = .ok (i, rest) ∧
      exec i s = .next t ∧
      (∀ j < 8, BitVec.getLsbD res j = if j = b.toNat then set else (s.readByte s.regs.hl).getLsbD j) ∧
      Stores s.regs.hl res s t ∧ KeepsBytesOutside [s.regs.hl] s t ∧ OnlyReg8 [] s t ∧
      Accesses [.read s.regs.hl (s.readByte s.regs.hl), .write s.regs.hl res] s t ∧ Advances 2 16 s t

/-- PREFIX CB runs the rule of the CB instruction its sub-opcode selects: the same next state as that instruction, for all
256 sub-opcodes (46_system.md R365). -/
def Obligations.PrefixRunsTheCbInstruction : Prop :=
  ∀ (sub : Byte) (rest : List Byte) (s : State),
    ∃ i t, decode (0xCB :: sub :: rest) = .ok (i, rest) ∧ exec i s = .next t ∧ exec (.prefixCB sub) s = .next t

/-! ## Control transfer -/

/-- JP a16, JP cc,a16 and JP HL (45_control.md R320 to R323). -/
def Obligations.AbsoluteJumps : Prop :=
  (∀ (nn : Word) (rest : List Byte) (s : State),
    ∃ i t, decode (0b11000011 :: lo8 nn :: hi8 nn :: rest) = .ok (i, rest) ∧ exec i s = .next t ∧
      OnlyReg8 [] s t ∧ KeepsBytesOutside [] s t ∧ Accesses [] s t ∧ Transfers nn 3 16 0 s t) ∧
  (∀ (cc : BitVec 2) (nn : Word) (rest : List Byte) (s : State),
    ∃ i t, decode ((0b110#3 ++ cc ++ 0b010#3) :: lo8 nn :: hi8 nn :: rest) = .ok (i, rest) ∧ exec i s = .next t ∧
      OnlyReg8 [] s t ∧ KeepsBytesOutside [] s t ∧ Accesses [] s t ∧
      if conditionHolds cc s then Transfers nn 3 16 4 s t else Advances 3 12 s t) ∧
  ∀ (rest : List Byte) (s : State),
    ∃ i t, decode (0b11101001 :: rest) = .ok (i, rest) ∧ exec i s = .next t ∧
      OnlyReg8 [] s t ∧ KeepsBytesOutside [] s t ∧ Accesses [] s t ∧ Transfers s.regs.hl 1 4 0 s t

/-- JR e8 and JR cc,e8 (45_control.md R320, R324, R325): the origin is the address after the instruction; the target
wraps. -/
def Obligations.RelativeJumps : Prop :=
  ∀ (n : Byte) (target : Word) (rest : List Byte) (s : State),
    target = BitVec.ofInt 16 (s.regs.pc.toNat + 2 + n.toInt) →
    (∃ i t, decode (0b00011000 :: n :: rest) = .ok (i, rest) ∧ exec i s = .next t ∧
      OnlyReg8 [] s t ∧ KeepsBytesOutside [] s t ∧ Accesses [] s t ∧ Transfers target 2 12 0 s t) ∧
    ∀ cc : BitVec 2,
      ∃ i t, decode ((0b001#3 ++ cc ++ 0b000#3) :: n :: rest) = .ok (i, rest) ∧ exec i s = .next t ∧
        OnlyReg8 [] s t ∧ KeepsBytesOutside [] s t ∧ Accesses [] s t ∧
        if conditionHolds cc s then Transfers target 2 12 4 s t else Advances 2 8 s t

/-- What pushing `v` does to SP, memory and the trace, with every other register kept (00_scope.md R16). -/
def Pushes (v : Word) (s t : State) : Prop :=
  t.regs.sp = s.regs.sp - 2 ∧ OnlyReg16 [.SP] s t ∧ KeepsBytesOutside [s.regs.sp - 1, s.regs.sp - 2] s t ∧
    Stores (s.regs.sp - 1) (hi8 v) s t ∧ Stores (s.regs.sp - 2) (lo8 v) s t ∧
    Accesses [.write (s.regs.sp - 1) (hi8 v), .write (s.regs.sp - 2) (lo8 v)] s t

/-- CALL a16 and CALL cc,a16 (45_control.md R320, R326, R327): PC + 3 is pushed; not taken, nothing is. That the
pushed bytes read back is the plain RAM's (log entry 1: R70, R402, D13). -/
def Obligations.Calls : Prop :=
  (∀ (nn : Word) (rest : List Byte) (s : State),
    ∃ i t, decode (0b11001101 :: lo8 nn :: hi8 nn :: rest) = .ok (i, rest) ∧ exec i s = .next t ∧
      Pushes (s.regs.pc + 3) s t ∧ Transfers nn 3 24 0 s t) ∧
  ∀ (cc : BitVec 2) (nn : Word) (rest : List Byte) (s : State),
    ∃ i t, decode ((0b110#3 ++ cc ++ 0b100#3) :: lo8 nn :: hi8 nn :: rest) = .ok (i, rest) ∧ exec i s = .next t ∧
      if conditionHolds cc s then Pushes (s.regs.pc + 3) s t ∧ Transfers nn 3 24 12 s t
      else OnlyReg8 [] s t ∧ KeepsBytesOutside [] s t ∧ Accesses [] s t ∧ Advances 3 12 s t

/-- RET, RET cc and RETI (45_control.md R320, R328 to R330): PC from the stack, SP up by 2; RETI sets IME at once. -/
def Obligations.Returns : Prop :=
  ∀ (lo hi : Byte) (rest : List Byte) (s : State), lo = s.readByte s.regs.sp →
    hi = (s.memRead s.regs.sp).2.readByte (s.regs.sp + 1) →
    (∃ i t, decode (0b11001001 :: rest) = .ok (i, rest) ∧ exec i s = .next t ∧ t.regs.sp = s.regs.sp + 2 ∧
      OnlyReg16 [.SP] s t ∧ KeepsBytesOutside [] s t ∧
      Accesses [.read s.regs.sp lo, .read (s.regs.sp + 1) hi] s t ∧ Transfers (cat16 hi lo) 1 16 0 s t) ∧
    (∀ cc : BitVec 2,
      ∃ i t, decode ((0b110#3 ++ cc ++ 0b000#3) :: rest) = .ok (i, rest) ∧ exec i s = .next t ∧
        if conditionHolds cc s then
          t.regs.sp = s.regs.sp + 2 ∧ OnlyReg16 [.SP] s t ∧ KeepsBytesOutside [] s t ∧
            Accesses [.read s.regs.sp lo, .read (s.regs.sp + 1) hi] s t ∧ Transfers (cat16 hi lo) 1 20 12 s t
        else OnlyReg8 [] s t ∧ KeepsBytesOutside [] s t ∧ Accesses [] s t ∧ Advances 1 8 s t) ∧
    (∃ i t, decode (0b11011001 :: rest) = .ok (i, rest) ∧ exec i s = .next t ∧ t.regs.sp = s.regs.sp + 2 ∧
      KeepsReg16 [.SP] s t ∧ KeepsMachine s t ∧ t.int = { s.int with ime := true } ∧ KeepsBytesOutside [] s t ∧
      Accesses [.read s.regs.sp lo, .read (s.regs.sp + 1) hi] s t ∧ Transfers (cat16 hi lo) 1 16 0 s t)

/-- RST t (45_control.md R331): PC + 1 is pushed, PC is t * 8. That the pushed bytes read back is the plain RAM's (log
entry 1: R70, R402, D13). -/
def Obligations.Restarts : Prop :=
  ∀ (y : BitVec 3) (rest : List Byte) (s : State),
    ∃ i t, decode ((0b11#2 ++ y ++ 0b111#3) :: rest) = .ok (i, rest) ∧ exec i s = .next t ∧
      Pushes (s.regs.pc + 1) s t ∧ Transfers (BitVec.ofNat 16 (8 * y.toNat)) 1 16 0 s t

/-! ## System -/

/-- NOP, HALT, DI and EI (46_system.md R360, R361, R363, R364): what each does to the four booleans, and nothing else. -/
def Obligations.SystemInstructions : Prop :=
  ∀ (op : Byte) (after : IntState) (rest : List Byte) (s : State),
    (op, after) ∈ [((0x00 : Byte), s.int), (0x76, { s.int with halted := true }), (0xF3, { s.int with ime := false }),
      (0xFB, { s.int with eiPending := true })] →
    ∃ i t, decode (op :: rest) = .ok (i, rest) ∧ exec i s = .next t ∧ t.int = after ∧ KeepsReg8 [] s t ∧
      t.regs.sp = s.regs.sp ∧ KeepsMachine s t ∧ KeepsBytesOutside [] s t ∧ Accesses [] s t ∧ Advances 1 4 s t

/-- STOP (46_system.md R362): Stopped is set, PC advances by `STOP_BYTES`, the byte after the opcode is not read. -/
def Obligations.StopInstruction : Prop :=
  ∀ (len : Nat) (rest : List Byte) (s : State),
    len = (if s.params.stopBytes = .one then 1 else 2) →
    ∃ i t, decode (0x10 :: rest) = .ok (i, rest) ∧ exec i s = .next t ∧ t.int = { s.int with stopped := true } ∧
      KeepsReg8 [] s t ∧ t.regs.sp = s.regs.sp ∧ KeepsMachine s t ∧ KeepsBytesOutside [] s t ∧ Accesses [] s t ∧
      Advances len 4 s t
end

