-- ==== Sys2Proof/Laws/Bits.lean ====
section
/-! SUPPORT. Bytes of a word: putting together and taking apart. -/

namespace Sys2Proof

/-- `cat16(hi, lo) = hi * 256 + lo` (00_scope.md R12), as numbers. -/
theorem cat16_toNat (h l : Byte) : (cat16 h l).toNat = h.toNat * 256 + l.toNat := by
  have e : (cat16 h l).toNat = h.toNat <<< 8 ||| l.toNat := BitVec.toNat_append h l
  rw [e, ← Nat.shiftLeft_add_eq_or_of_lt l.isLt, Nat.shiftLeft_eq]

theorem hi8_toNat (v : Word) : (hi8 v).toNat = v.toNat / 256 := by
  have := v.isLt
  simp only [hi8, BitVec.extractLsb'_toNat, Nat.shiftRight_eq_div_pow]
  omega

theorem lo8_toNat (v : Word) : (lo8 v).toNat = v.toNat % 256 := by
  simp [lo8, BitVec.extractLsb'_toNat]

@[simp] theorem hi8_cat16 (h l : Byte) : hi8 (cat16 h l) = h := by
  have := l.isLt
  apply BitVec.eq_of_toNat_eq
  rw [hi8_toNat, cat16_toNat]
  omega

@[simp] theorem lo8_cat16 (h l : Byte) : lo8 (cat16 h l) = l := by
  have := l.isLt
  apply BitVec.eq_of_toNat_eq
  rw [lo8_toNat, cat16_toNat]
  omega

@[simp] theorem cat16_hi8_lo8 (v : Word) : cat16 (hi8 v) (lo8 v) = v := by
  apply BitVec.eq_of_toNat_eq
  rw [cat16_toNat, hi8_toNat, lo8_toNat]
  omega

/-- Two words with equal bytes are equal. -/
theorem word_ext {v w : Word} (hh : hi8 v = hi8 w) (hl : lo8 v = lo8 w) : v = w := by
  rw [← cat16_hi8_lo8 v, ← cat16_hi8_lo8 w, hh, hl]

@[simp] theorem and_F0_low_nibble (v : Byte) : v &&& 0xF0#8 &&& 0x0F#8 = 0#8 := by
  rw [BitVec.and_assoc]
  simp

@[simp] theorem and_F0_twice (v : Byte) : v &&& 0xF0#8 &&& 0xF0#8 = v &&& 0xF0#8 := by
  rw [BitVec.and_assoc]
  simp

end Sys2Proof
end

