-- ==== Sys2Proof/Laws/State.lean ====
section
/-! SUPPORT. One lemma per field of State per update: what each named operation leaves alone. -/

namespace Sys2Proof.Machine

@[simp] theorem setR8_int (s : State) (r : Reg8) (v : Byte) : (s.setR8 r v).int = s.int := by cases r <;> rfl
@[simp] theorem setR8_tick (s : State) (r : Reg8) (v : Byte) : (s.setR8 r v).tick = s.tick := by cases r <;> rfl
@[simp] theorem setR8_fault (s : State) (r : Reg8) (v : Byte) : (s.setR8 r v).fault = s.fault := by cases r <;> rfl
@[simp] theorem setR8_scratch (s : State) (r : Reg8) (v : Byte) : (s.setR8 r v).scratch = s.scratch := by cases r <;> rfl
@[simp] theorem setR8_bus (s : State) (r : Reg8) (v : Byte) : (s.setR8 r v).bus = s.bus := by cases r <;> rfl
@[simp] theorem setR8_params (s : State) (r : Reg8) (v : Byte) : (s.setR8 r v).params = s.params := by cases r <;> rfl
@[simp] theorem setR8_inputs (s : State) (r : Reg8) (v : Byte) : (s.setR8 r v).inputs = s.inputs := by cases r <;> rfl

@[simp] theorem setR16_int (s : State) (rr : Reg16) (v : Word) : (s.setR16 rr v).int = s.int := by cases rr <;> rfl
@[simp] theorem setR16_tick (s : State) (rr : Reg16) (v : Word) : (s.setR16 rr v).tick = s.tick := by cases rr <;> rfl
@[simp] theorem setR16_fault (s : State) (rr : Reg16) (v : Word) : (s.setR16 rr v).fault = s.fault := by cases rr <;> rfl
@[simp] theorem setR16_scratch (s : State) (rr : Reg16) (v : Word) : (s.setR16 rr v).scratch = s.scratch := by cases rr <;> rfl
@[simp] theorem setR16_bus (s : State) (rr : Reg16) (v : Word) : (s.setR16 rr v).bus = s.bus := by cases rr <;> rfl
@[simp] theorem setR16_params (s : State) (rr : Reg16) (v : Word) : (s.setR16 rr v).params = s.params := by cases rr <;> rfl
@[simp] theorem setR16_inputs (s : State) (rr : Reg16) (v : Word) : (s.setR16 rr v).inputs = s.inputs := by cases rr <;> rfl

@[simp] theorem pokeByte_regs (s : State) (a : Word) (v : Byte) : (s.pokeByte a v).regs = s.regs := rfl
@[simp] theorem pokeByte_int (s : State) (a : Word) (v : Byte) : (s.pokeByte a v).int = s.int := rfl
@[simp] theorem pokeByte_tick (s : State) (a : Word) (v : Byte) : (s.pokeByte a v).tick = s.tick := rfl
@[simp] theorem pokeByte_fault (s : State) (a : Word) (v : Byte) : (s.pokeByte a v).fault = s.fault := rfl
@[simp] theorem pokeByte_scratch (s : State) (a : Word) (v : Byte) : (s.pokeByte a v).scratch = s.scratch := rfl
@[simp] theorem pokeByte_params (s : State) (a : Word) (v : Byte) : (s.pokeByte a v).params = s.params := rfl
@[simp] theorem pokeByte_inputs (s : State) (a : Word) (v : Byte) : (s.pokeByte a v).inputs = s.inputs := rfl

@[simp] theorem memRead_regs (s : State) (a : Word) : ((s.memRead a).2).regs = s.regs := rfl
@[simp] theorem memRead_int (s : State) (a : Word) : ((s.memRead a).2).int = s.int := rfl
@[simp] theorem memRead_tick (s : State) (a : Word) : ((s.memRead a).2).tick = s.tick := rfl
@[simp] theorem memRead_fault (s : State) (a : Word) : ((s.memRead a).2).fault = s.fault := rfl
@[simp] theorem memRead_scratch (s : State) (a : Word) : ((s.memRead a).2).scratch = s.scratch := rfl
@[simp] theorem memRead_params (s : State) (a : Word) : ((s.memRead a).2).params = s.params := rfl
@[simp] theorem memRead_inputs (s : State) (a : Word) : ((s.memRead a).2).inputs = s.inputs := rfl

@[simp] theorem memWrite_regs (s : State) (a : Word) (v : Byte) : (s.memWrite a v).regs = s.regs := rfl
@[simp] theorem memWrite_int (s : State) (a : Word) (v : Byte) : (s.memWrite a v).int = s.int := rfl
@[simp] theorem memWrite_tick (s : State) (a : Word) (v : Byte) : (s.memWrite a v).tick = s.tick := rfl
@[simp] theorem memWrite_fault (s : State) (a : Word) (v : Byte) : (s.memWrite a v).fault = s.fault := rfl
@[simp] theorem memWrite_scratch (s : State) (a : Word) (v : Byte) : (s.memWrite a v).scratch = s.scratch := rfl
@[simp] theorem memWrite_params (s : State) (a : Word) (v : Byte) : (s.memWrite a v).params = s.params := rfl
@[simp] theorem memWrite_inputs (s : State) (a : Word) (v : Byte) : (s.memWrite a v).inputs = s.inputs := rfl

@[simp] theorem ifClear_regs (s : State) (i : Nat) : (s.ifClear i).regs = s.regs := rfl
@[simp] theorem ifClear_int (s : State) (i : Nat) : (s.ifClear i).int = s.int := rfl
@[simp] theorem ifClear_tick (s : State) (i : Nat) : (s.ifClear i).tick = s.tick := rfl
@[simp] theorem ifClear_fault (s : State) (i : Nat) : (s.ifClear i).fault = s.fault := rfl
@[simp] theorem ifClear_scratch (s : State) (i : Nat) : (s.ifClear i).scratch = s.scratch := rfl
@[simp] theorem ifClear_params (s : State) (i : Nat) : (s.ifClear i).params = s.params := rfl
@[simp] theorem ifClear_inputs (s : State) (i : Nat) : (s.ifClear i).inputs = s.inputs := rfl

@[simp] theorem jumpTo_int (s : State) (a : Word) : (s.jumpTo a).int = s.int := rfl
@[simp] theorem jumpTo_tick (s : State) (a : Word) : (s.jumpTo a).tick = s.tick := rfl
@[simp] theorem jumpTo_fault (s : State) (a : Word) : (s.jumpTo a).fault = s.fault := rfl
@[simp] theorem jumpTo_bus (s : State) (a : Word) : (s.jumpTo a).bus = s.bus := rfl
@[simp] theorem jumpTo_params (s : State) (a : Word) : (s.jumpTo a).params = s.params := rfl
@[simp] theorem jumpTo_inputs (s : State) (a : Word) : (s.jumpTo a).inputs = s.inputs := rfl

@[simp] theorem extra_regs (s : State) (n : Nat) : (s.extra n).regs = s.regs := rfl
@[simp] theorem extra_int (s : State) (n : Nat) : (s.extra n).int = s.int := rfl
@[simp] theorem extra_tick (s : State) (n : Nat) : (s.extra n).tick = s.tick := rfl
@[simp] theorem extra_fault (s : State) (n : Nat) : (s.extra n).fault = s.fault := rfl
@[simp] theorem extra_bus (s : State) (n : Nat) : (s.extra n).bus = s.bus := rfl
@[simp] theorem extra_params (s : State) (n : Nat) : (s.extra n).params = s.params := rfl
@[simp] theorem extra_inputs (s : State) (n : Nat) : (s.extra n).inputs = s.inputs := rfl

@[simp] theorem charge_regs (s : State) (n : Nat) : (s.charge n).regs = s.regs := rfl
@[simp] theorem charge_int (s : State) (n : Nat) : (s.charge n).int = s.int := rfl
@[simp] theorem charge_tick (s : State) (n : Nat) : (s.charge n).tick = s.tick := rfl
@[simp] theorem charge_fault (s : State) (n : Nat) : (s.charge n).fault = s.fault := rfl
@[simp] theorem charge_bus (s : State) (n : Nat) : (s.charge n).bus = s.bus := rfl
@[simp] theorem charge_params (s : State) (n : Nat) : (s.charge n).params = s.params := rfl
@[simp] theorem charge_inputs (s : State) (n : Nat) : (s.charge n).inputs = s.inputs := rfl

@[simp] theorem fetched_regs (s : State) (n : Nat) : (s.fetched n).regs = s.regs := rfl
@[simp] theorem fetched_int (s : State) (n : Nat) : (s.fetched n).int = s.int := rfl
@[simp] theorem fetched_tick (s : State) (n : Nat) : (s.fetched n).tick = s.tick := rfl
@[simp] theorem fetched_fault (s : State) (n : Nat) : (s.fetched n).fault = s.fault := rfl
@[simp] theorem fetched_bus (s : State) (n : Nat) : (s.fetched n).bus = s.bus := rfl
@[simp] theorem fetched_params (s : State) (n : Nat) : (s.fetched n).params = s.params := rfl
@[simp] theorem fetched_inputs (s : State) (n : Nat) : (s.fetched n).inputs = s.inputs := rfl

@[simp] theorem updateTick_regs (s : State) : (s.updateTick).regs = s.regs := rfl
@[simp] theorem updateTick_int (s : State) : (s.updateTick).int = s.int := rfl
@[simp] theorem updateTick_fault (s : State) : (s.updateTick).fault = s.fault := rfl
@[simp] theorem updateTick_scratch (s : State) : (s.updateTick).scratch = s.scratch := rfl
@[simp] theorem updateTick_bus (s : State) : (s.updateTick).bus = s.bus := rfl
@[simp] theorem updateTick_params (s : State) : (s.updateTick).params = s.params := rfl
@[simp] theorem updateTick_inputs (s : State) : (s.updateTick).inputs = s.inputs := rfl

@[simp] theorem advancePc_int (s : State) : (s.advancePc).int = s.int := by unfold State.advancePc; split <;> rfl
@[simp] theorem advancePc_tick (s : State) : (s.advancePc).tick = s.tick := by unfold State.advancePc; split <;> rfl
@[simp] theorem advancePc_fault (s : State) : (s.advancePc).fault = s.fault := by unfold State.advancePc; split <;> rfl
@[simp] theorem advancePc_scratch (s : State) : (s.advancePc).scratch = s.scratch := by unfold State.advancePc; split <;> rfl
@[simp] theorem advancePc_bus (s : State) : (s.advancePc).bus = s.bus := by unfold State.advancePc; split <;> rfl
@[simp] theorem advancePc_params (s : State) : (s.advancePc).params = s.params := by unfold State.advancePc; split <;> rfl
@[simp] theorem advancePc_inputs (s : State) : (s.advancePc).inputs = s.inputs := by unfold State.advancePc; split <;> rfl

@[simp] theorem raiseIllegal_regs (s : State) (op : Byte) : (s.raiseIllegal op).regs = s.regs := rfl
@[simp] theorem raiseIllegal_int (s : State) (op : Byte) : (s.raiseIllegal op).int = s.int := rfl
@[simp] theorem raiseIllegal_tick (s : State) (op : Byte) : (s.raiseIllegal op).tick = s.tick := rfl
@[simp] theorem raiseIllegal_scratch (s : State) (op : Byte) : (s.raiseIllegal op).scratch = s.scratch := rfl
@[simp] theorem raiseIllegal_bus (s : State) (op : Byte) : (s.raiseIllegal op).bus = s.bus := rfl
@[simp] theorem raiseIllegal_params (s : State) (op : Byte) : (s.raiseIllegal op).params = s.params := rfl
@[simp] theorem raiseIllegal_inputs (s : State) (op : Byte) : (s.raiseIllegal op).inputs = s.inputs := rfl

@[simp] theorem stopWake_regs (s : State) (w : Bool) : (s.stopWake w).regs = s.regs := by unfold State.stopWake; split <;> rfl
@[simp] theorem stopWake_tick (s : State) (w : Bool) : (s.stopWake w).tick = s.tick := by unfold State.stopWake; split <;> rfl
@[simp] theorem stopWake_fault (s : State) (w : Bool) : (s.stopWake w).fault = s.fault := by unfold State.stopWake; split <;> rfl
@[simp] theorem stopWake_scratch (s : State) (w : Bool) : (s.stopWake w).scratch = s.scratch := by unfold State.stopWake; split <;> rfl
@[simp] theorem stopWake_bus (s : State) (w : Bool) : (s.stopWake w).bus = s.bus := by unfold State.stopWake; split <;> rfl
@[simp] theorem stopWake_params (s : State) (w : Bool) : (s.stopWake w).params = s.params := by unfold State.stopWake; split <;> rfl
@[simp] theorem stopWake_inputs (s : State) (w : Bool) : (s.stopWake w).inputs = s.inputs := by unfold State.stopWake; split <;> rfl

@[simp] theorem haltWake_regs (s : State) (p : Byte) : (s.haltWake p).regs = s.regs := by unfold State.haltWake; split <;> rfl
@[simp] theorem haltWake_tick (s : State) (p : Byte) : (s.haltWake p).tick = s.tick := by unfold State.haltWake; split <;> rfl
@[simp] theorem haltWake_fault (s : State) (p : Byte) : (s.haltWake p).fault = s.fault := by unfold State.haltWake; split <;> rfl
@[simp] theorem haltWake_scratch (s : State) (p : Byte) : (s.haltWake p).scratch = s.scratch := by unfold State.haltWake; split <;> rfl
@[simp] theorem haltWake_bus (s : State) (p : Byte) : (s.haltWake p).bus = s.bus := by unfold State.haltWake; split <;> rfl
@[simp] theorem haltWake_params (s : State) (p : Byte) : (s.haltWake p).params = s.params := by unfold State.haltWake; split <;> rfl
@[simp] theorem haltWake_inputs (s : State) (p : Byte) : (s.haltWake p).inputs = s.inputs := by unfold State.haltWake; split <;> rfl

@[simp] theorem applyEi_regs (s : State) : (s.applyEi).regs = s.regs := by unfold State.applyEi; split <;> rfl
@[simp] theorem applyEi_tick (s : State) : (s.applyEi).tick = s.tick := by unfold State.applyEi; split <;> rfl
@[simp] theorem applyEi_fault (s : State) : (s.applyEi).fault = s.fault := by unfold State.applyEi; split <;> rfl
@[simp] theorem applyEi_scratch (s : State) : (s.applyEi).scratch = s.scratch := by unfold State.applyEi; split <;> rfl
@[simp] theorem applyEi_bus (s : State) : (s.applyEi).bus = s.bus := by unfold State.applyEi; split <;> rfl
@[simp] theorem applyEi_params (s : State) : (s.applyEi).params = s.params := by unfold State.applyEi; split <;> rfl
@[simp] theorem applyEi_inputs (s : State) : (s.applyEi).inputs = s.inputs := by unfold State.applyEi; split <;> rfl

@[simp] theorem push16_int (s : State) (v : Word) : (s.push16 v).int = s.int := rfl
@[simp] theorem push16_tick (s : State) (v : Word) : (s.push16 v).tick = s.tick := rfl
@[simp] theorem push16_fault (s : State) (v : Word) : (s.push16 v).fault = s.fault := rfl
@[simp] theorem push16_scratch (s : State) (v : Word) : (s.push16 v).scratch = s.scratch := rfl
@[simp] theorem push16_params (s : State) (v : Word) : (s.push16 v).params = s.params := rfl
@[simp] theorem push16_inputs (s : State) (v : Word) : (s.push16 v).inputs = s.inputs := rfl

@[simp] theorem pop16_int (s : State) : (s.pop16.2).int = s.int := rfl
@[simp] theorem pop16_tick (s : State) : (s.pop16.2).tick = s.tick := rfl
@[simp] theorem pop16_fault (s : State) : (s.pop16.2).fault = s.fault := rfl
@[simp] theorem pop16_scratch (s : State) : (s.pop16.2).scratch = s.scratch := rfl
@[simp] theorem pop16_params (s : State) : (s.pop16.2).params = s.params := rfl
@[simp] theorem pop16_inputs (s : State) : (s.pop16.2).inputs = s.inputs := rfl

@[simp] theorem setR8_F_af (s : State) (v : Byte) : (s.setR8 .F v).regs.af = cat16 (hi8 s.regs.af) (v &&& 0xF0) := rfl
@[simp] theorem jumpTo_pc (s : State) (a : Word) : (s.jumpTo a).regs.pc = a := rfl
@[simp] theorem jumpTo_sp (s : State) (a : Word) : (s.jumpTo a).regs.sp = s.regs.sp := rfl
@[simp] theorem jumpTo_scratch (s : State) (a : Word) : (s.jumpTo a).scratch = { s.scratch with jumped := true } := rfl
@[simp] theorem extra_scratch (s : State) (n : Nat) : (s.extra n).scratch = { s.scratch with extraCycles := n } := rfl
@[simp] theorem charge_scratch (s : State) (n : Nat) : (s.charge n).scratch = { s.scratch with cost := s.scratch.cost + n } :=
  rfl
@[simp] theorem fetched_scratch (s : State) (n : Nat) : (s.fetched n).scratch = { Scratch.start with bc := n } := rfl
@[simp] theorem updateTick_tick (s : State) : s.updateTick.tick = s.tick + BitVec.ofNat 16 s.scratch.cost := rfl
@[simp] theorem memRead_fst (s : State) (a : Word) : (s.memRead a).1 = s.readByte a := rfl
@[simp] theorem memRead_bus (s : State) (a : Word) : (s.memRead a).2.bus = s.bus.afterRead a := rfl
@[simp] theorem memWrite_bus (s : State) (a : Word) (v : Byte) : (s.memWrite a v).bus = s.bus.afterWrite a v := rfl
@[simp] theorem afterRead_trace (b : Bus) (a : Word) : (b.afterRead a).trace = b.trace ++ [.read a (b.readByte a)] := rfl
@[simp] theorem afterRead_answers (b : Bus) (a : Word) : (b.afterRead a).answers = b.answers.tail := rfl
@[simp] theorem afterWrite_trace (b : Bus) (a : Word) (v : Byte) : (b.afterWrite a v).trace = b.trace ++ [.write a v] := rfl
@[simp] theorem afterWrite_answers (b : Bus) (a : Word) (v : Byte) : (b.afterWrite a v).answers = b.answers.tail := rfl
@[simp] theorem ifClear_trace (b : Bus) (i : Nat) : (b.ifClear i).trace = b.trace := rfl
@[simp] theorem ifClear_answers (b : Bus) (i : Nat) : (b.ifClear i).answers = b.answers := rfl
@[simp] theorem pokeByte_answers (s : State) (a : Word) (v : Byte) : (s.pokeByte a v).bus.answers = s.bus.answers := rfl

@[simp] theorem pokeAll_regs (s : State) (l : List (Word × Byte)) : (s.pokeAll l).regs = s.regs := rfl
@[simp] theorem pokeAll_int (s : State) (l : List (Word × Byte)) : (s.pokeAll l).int = s.int := rfl
@[simp] theorem pokeAll_tick (s : State) (l : List (Word × Byte)) : (s.pokeAll l).tick = s.tick := rfl
@[simp] theorem pokeAll_fault (s : State) (l : List (Word × Byte)) : (s.pokeAll l).fault = s.fault := rfl
@[simp] theorem pokeAll_params (s : State) (l : List (Word × Byte)) : (s.pokeAll l).params = s.params := rfl
@[simp] theorem pokeAll_mem (s : State) (l : List (Word × Byte)) : (s.pokeAll l).bus.mem = s.bus.mem.writeAll l := rfl
@[simp] theorem pokeByte_trace (s : State) (a : Word) (v : Byte) : (s.pokeByte a v).bus.trace = s.bus.trace := rfl
@[simp] theorem pokeByte_mem (s : State) (a : Word) (v : Byte) :
    (s.pokeByte a v).bus.mem = s.bus.mem.write a.toNat v := rfl

end Sys2Proof.Machine
end

