-- ==== Sys2Proof/Laws/Memory.lean ====
section
/-! SUPPORT. The two laws of memory, read after write and frame, and that every memory operation keeps the canonical form. -/

namespace Sys2Proof.Machine

/-- Writing one address leaves every other byte alone. -/
theorem Memory.read_write_other (m : Memory) (a b : Nat) (v : Byte) (h : b ≠ a) : (m.write a v).read b = m.read b := by
  induction m with
  | nil =>
    simp only [Memory.write]
    split <;> simp [Memory.read, Ne.symm h]
  | cons c m ih =>
    obtain ⟨k, u⟩ := c
    simp only [Memory.write]
    split
    · split <;> simp [Memory.read, Ne.symm h]
    · split
      · rename_i hk
        subst hk
        split <;> simp [Memory.read, Ne.symm h]
      · simp [Memory.read, ih]

/-- Below every listed address of a canonical memory, bytes are unlisted. -/
theorem Memory.read_below (m : Memory) (lo a : Nat) (h : Memory.canonicalFrom lo m = true) (ha : a < lo) :
    m.read a = unlistedByte := by
  induction m generalizing lo with
  | nil => rfl
  | cons c m ih =>
    obtain ⟨k, u⟩ := c
    simp only [Memory.canonicalFrom, Bool.and_eq_true, decide_eq_true_eq] at h
    have hk : k ≠ a := by omega
    simp only [Memory.read, hk, if_false]
    exact ih (k + 1) h.2 (by omega)

/-- Reading what was just written, in a canonical memory. -/
theorem Memory.read_write_same (m : Memory) (lo a : Nat) (v : Byte) (h : Memory.canonicalFrom lo m = true) :
    (m.write a v).read a = v := by
  induction m generalizing lo with
  | nil =>
    simp only [Memory.write]
    split <;> simp_all [Memory.read]
  | cons c m ih =>
    obtain ⟨k, u⟩ := c
    have h' := h
    simp only [Memory.canonicalFrom, Bool.and_eq_true, decide_eq_true_eq] at h
    simp only [Memory.write]
    split
    · rename_i hlt
      split
      · rename_i hv
        rw [hv]
        refine Memory.read_below _ k a ?_ hlt
        simp [Memory.canonicalFrom, h.1.2, h.2, h.1.1.2]
      · simp [Memory.read]
    · split
      · rename_i hk
        subst hk
        split
        · rename_i hv
          rw [hv]
          exact Memory.read_below m (a + 1) a h.2 (by omega)
        · simp [Memory.read]
      · rename_i hk
        have hk' : k ≠ a := fun e => hk e.symm
        simp only [Memory.read, hk', if_false]
        exact ih (k + 1) h.2

theorem Memory.canonicalFrom_mono (m : Memory) (lo lo' : Nat) (h : Memory.canonicalFrom lo m = true) (hl : lo' ≤ lo) :
    Memory.canonicalFrom lo' m = true := by
  cases m with
  | nil => rfl
  | cons c m =>
    obtain ⟨k, u⟩ := c
    simp only [Memory.canonicalFrom, Bool.and_eq_true, decide_eq_true_eq] at h ⊢
    exact ⟨⟨⟨by omega, h.1.1.2⟩, h.1.2⟩, h.2⟩

theorem Memory.canonicalFrom_write (m : Memory) (lo a : Nat) (v : Byte) (h : Memory.canonicalFrom lo m = true)
    (hlo : lo ≤ a) (ha : a < 65536) : Memory.canonicalFrom lo (m.write a v) = true := by
  induction m generalizing lo with
  | nil =>
    simp only [Memory.write]
    split <;> simp_all [Memory.canonicalFrom]
  | cons c m ih =>
    obtain ⟨k, u⟩ := c
    simp only [Memory.canonicalFrom, Bool.and_eq_true, decide_eq_true_eq] at h
    obtain ⟨⟨⟨h1, h2⟩, h3⟩, h4⟩ := h
    simp only [Memory.write]
    split
    · split <;> simp_all [Memory.canonicalFrom]
    · split
      · rename_i hk
        subst hk
        split
        · exact Memory.canonicalFrom_mono m (a + 1) lo h4 (by omega)
        · simp_all [Memory.canonicalFrom]
      · simp only [Memory.canonicalFrom, Bool.and_eq_true, decide_eq_true_eq]
        exact ⟨⟨⟨h1, h2⟩, h3⟩, ih (k + 1) h4 (by omega)⟩

/-- A write keeps the canonical form. -/
theorem Memory.wf_write (m : Memory) (a : Word) (v : Byte) (h : m.wf) : Memory.wf (m.write a.toNat v) :=
  Memory.canonicalFrom_write m 0 a.toNat v h (Nat.zero_le _) a.isLt

/-- Storing several bytes keeps the canonical form. -/
theorem Memory.wf_writeAll (m : Memory) (l : List (Word × Byte)) (h : m.wf) : Memory.wf (m.writeAll l) := by
  induction l generalizing m with
  | nil => exact h
  | cons c l ih => exact ih _ (Memory.wf_write m c.1 c.2 h)

/-! ## The bus: what an access does to its bytes, whatever the bus, and on a plain RAM (20_memory.md R70) -/

theorem wf_afterRead (b : Bus) (a : Word) (h : b.mem.wf) : (b.afterRead a).mem.wf := by
  unfold Bus.afterRead
  split
  · exact h
  · exact Memory.wf_writeAll _ _ h

theorem wf_afterWrite (b : Bus) (a : Word) (v : Byte) (h : b.mem.wf) : (b.afterWrite a v).mem.wf := by
  unfold Bus.afterWrite
  split
  · exact Memory.wf_write _ a v h
  · exact Memory.wf_writeAll _ _ h

theorem readByte_plain (b : Bus) (a : Word) (h : b.answers = []) : b.readByte a = b.mem.read a.toNat := by
  simp [Bus.readByte, Bus.nextAnswer, h]

theorem afterRead_mem_plain (b : Bus) (a : Word) (h : b.answers = []) : (b.afterRead a).mem = b.mem := by
  simp [Bus.afterRead, Bus.nextAnswer, h]

theorem afterWrite_mem_plain (b : Bus) (a : Word) (v : Byte) (h : b.answers = []) :
    (b.afterWrite a v).mem = b.mem.write a.toNat v := by
  simp [Bus.afterWrite, Bus.nextAnswer, h]

theorem afterRead_answers_plain (b : Bus) (a : Word) (h : b.answers = []) : (b.afterRead a).answers = [] := by simp [h]

theorem afterWrite_answers_plain (b : Bus) (a : Word) (v : Byte) (h : b.answers = []) :
    (b.afterWrite a v).answers = [] := by simp [h]

/-! ## The same laws on State -/

theorem byteAt_congr {s t : State} (h : t.bus.mem = s.bus.mem) (a : Word) : t.byteAt a = s.byteAt a := by
  simp [State.byteAt, h]

/-- On a plain RAM a read gives the byte last stored. -/
theorem readByte_eq_byteAt (s : State) (a : Word) (h : s.bus.answers = []) : s.readByte a = s.byteAt a :=
  readByte_plain s.bus a h

theorem byteAt_pokeByte_other (s : State) (a b : Word) (v : Byte) (h : b ≠ a) : (s.pokeByte a v).byteAt b = s.byteAt b :=
  Memory.read_write_other _ _ _ _ (fun e => h (BitVec.eq_of_toNat_eq e))

theorem byteAt_pokeByte_same (s : State) (a : Word) (v : Byte) (h : s.bus.mem.wf) : (s.pokeByte a v).byteAt a = v :=
  Memory.read_write_same _ 0 _ _ h

theorem byteAt_ifClear_other (s : State) (i : Nat) (a : Word) (h : a ≠ ifAddr) : (s.ifClear i).byteAt a = s.byteAt a :=
  Memory.read_write_other _ _ _ _ (fun e => h (BitVec.eq_of_toNat_eq e))

/-- The direct clear stores IF's view without bit i (60_exceptions.md R402). -/
theorem ifView_ifClear (b : Bus) (i : Nat) (h : b.mem.wf) : (b.ifClear i).ifView = b.ifView &&& ~~~(1 <<< i : Byte) :=
  Memory.read_write_same _ 0 _ _ h

theorem wf_pokeByte (s : State) (a : Word) (v : Byte) (h : s.bus.mem.wf) : (s.pokeByte a v).bus.mem.wf :=
  Memory.wf_write _ a v h

theorem wf_ifClear (b : Bus) (i : Nat) (h : b.mem.wf) : (b.ifClear i).mem.wf := Memory.wf_write _ ifAddr _ h

theorem wf_memRead (s : State) (a : Word) (h : s.bus.mem.wf) : (s.memRead a).2.bus.mem.wf := wf_afterRead s.bus a h

theorem wf_memWrite (s : State) (a : Word) (v : Byte) (h : s.bus.mem.wf) : (s.memWrite a v).bus.mem.wf :=
  wf_afterWrite s.bus a v h

theorem wf_pokeAll (s : State) (l : List (Word × Byte)) (h : s.bus.mem.wf) : (s.pokeAll l).bus.mem.wf :=
  Memory.wf_writeAll _ l h

theorem wf_beginStep (s : State) (h : s.bus.mem.wf) : s.beginStep.bus.mem.wf :=
  wf_pokeByte _ _ _ (wf_pokeAll s _ h)

theorem wf_push16 (s : State) (v : Word) (h : s.bus.mem.wf) : (s.push16 v).bus.mem.wf :=
  wf_afterWrite _ _ _ (wf_afterWrite _ _ _ h)

end Sys2Proof.Machine
end

