-- ==== Sys2Proof/Laws/Registers.lean ====
section
/-! SUPPORT. What reading a register or a flag gives after a write (10_state.md R32 to R35, R42). -/

namespace Sys2Proof.Machine

/-- A view reads what was written to it, F masked; every other view is undisturbed (R32, R34). -/
theorem r8_setR8 (s : State) (r q : Reg8) (v : Byte) :
    (s.setR8 r v).r8 q = if q = r then (if r = .F then v &&& 0xF0 else v) else s.r8 q := by
  cases r <;> cases q <;> simp [State.setR8, State.r8]

@[simp] theorem r8_setR8_same (s : State) (r : Reg8) (v : Byte) (h : r ≠ .F) : (s.setR8 r v).r8 r = v := by
  simp [r8_setR8, h]

@[simp] theorem r8_setR8_other (s : State) (r q : Reg8) (v : Byte) (h : q ≠ r) : (s.setR8 r v).r8 q = s.r8 q := by
  simp [r8_setR8, h]

@[simp] theorem setR8_sp (s : State) (r : Reg8) (v : Byte) : (s.setR8 r v).regs.sp = s.regs.sp := by cases r <;> rfl
@[simp] theorem setR8_pc (s : State) (r : Reg8) (v : Byte) : (s.setR8 r v).regs.pc = s.regs.pc := by cases r <;> rfl

/-- A register pair's two views. -/
def Reg16.views : Reg16 → List Reg8
  | .AF => [.A, .F]
  | .BC => [.B, .C]
  | .DE => [.D, .E]
  | .HL => [.H, .L]
  | .SP => []
  | .PC => []

@[simp] theorem setR16_sp (s : State) (rr : Reg16) (v : Word) :
    (s.setR16 rr v).regs.sp = if rr = .SP then v else s.regs.sp := by cases rr <;> rfl

@[simp] theorem setR16_pc (s : State) (rr : Reg16) (v : Word) :
    (s.setR16 rr v).regs.pc = if rr = .PC then v else s.regs.pc := by cases rr <;> rfl

@[simp] theorem r8_setR16_other (s : State) (rr : Reg16) (q : Reg8) (v : Word) (h : q ∉ rr.views) :
    (s.setR16 rr v).r8 q = s.r8 q := by
  cases rr <;> cases q <;> first | rfl | simp [Reg16.views] at h

@[simp] theorem r16_setR16_same (s : State) (rr : Reg16) (v : Word) (h : rr ≠ .AF) : (s.setR16 rr v).r16 rr = v := by
  cases rr <;> first | rfl | exact absurd rfl h

/-- A register file is read through its views, SP and PC alone. -/
theorem r8_congr {s t : State} (h : t.regs = s.regs) (q : Reg8) : t.r8 q = s.r8 q := by
  cases q <;> simp [State.r8, h]

@[simp] theorem r8_pokeByte (s : State) (a : Word) (v : Byte) (q : Reg8) : (s.pokeByte a v).r8 q = s.r8 q := rfl
@[simp] theorem r8_memWrite (s : State) (a : Word) (v : Byte) (q : Reg8) : (s.memWrite a v).r8 q = s.r8 q := rfl
@[simp] theorem r8_memRead (s : State) (a : Word) (q : Reg8) : (s.memRead a).2.r8 q = s.r8 q := rfl
@[simp] theorem r8_jumpTo (s : State) (a : Word) (q : Reg8) : (s.jumpTo a).r8 q = s.r8 q := by cases q <;> rfl
@[simp] theorem r8_extra (s : State) (n : Nat) (q : Reg8) : (s.extra n).r8 q = s.r8 q := rfl
@[simp] theorem r8_charge (s : State) (n : Nat) (q : Reg8) : (s.charge n).r8 q = s.r8 q := rfl
@[simp] theorem r8_fetched (s : State) (n : Nat) (q : Reg8) : (s.fetched n).r8 q = s.r8 q := rfl
@[simp] theorem r8_updateTick (s : State) (q : Reg8) : s.updateTick.r8 q = s.r8 q := rfl
@[simp] theorem r8_advancePc (s : State) (q : Reg8) : s.advancePc.r8 q = s.r8 q := by
  unfold State.advancePc
  split <;> cases q <;> rfl

/-! ## Flags -/

/-- F as the four bits of any byte whose low nibble is dropped. -/
theorem flagByte_bits (v : Byte) :
    flagByte (v.getLsbD 7) (v.getLsbD 6) (v.getLsbD 5) (v.getLsbD 4) = v &&& 0xF0 := by
  revert v
  decide

/-- What F reads after one flag is written: the other three flags kept, the low nibble 0. -/
theorem F_setFlag (s : State) (f : Flag) (b : Bool) :
    (s.setFlag f b).r8 .F =
      flagByte (if f = .Z then b else s.flag .Z) (if f = .N then b else s.flag .N) (if f = .H then b else s.flag .H)
        (if f = .C then b else s.flag .C) := by
  simp only [State.setFlag, State.flag, r8_setR8, if_true, Flag.bit]
  generalize s.r8 .F = v
  revert v
  cases f <;> cases b <;> decide

theorem flag_of_F (z n h c : Bool) (f : Flag) :
    (flagByte z n h c).getLsbD f.bit = match f with | .Z => z | .N => n | .H => h | .C => c := by
  revert z n h c
  cases f <;> decide

/-- A flag reads what was written to it, and the others are undisturbed (R35). -/
@[simp] theorem flag_setFlag (s : State) (f g : Flag) (b : Bool) :
    (s.setFlag f b).flag g = if g = f then b else s.flag g := by
  unfold State.flag
  rw [F_setFlag, flag_of_F]
  cases f <;> cases g <;> rfl

@[simp] theorem r8_setFlag (s : State) (f : Flag) (b : Bool) (q : Reg8) (h : q ≠ .F) : (s.setFlag f b).r8 q = s.r8 q := by
  simp [State.setFlag, h]

@[simp] theorem setFlag_sp (s : State) (f : Flag) (b : Bool) : (s.setFlag f b).regs.sp = s.regs.sp := rfl
@[simp] theorem setFlag_pc (s : State) (f : Flag) (b : Bool) : (s.setFlag f b).regs.pc = s.regs.pc := rfl

/-- F after all four flags are written. -/
@[simp] theorem F_setFlags (s : State) (z n h c : Bool) : (s.setFlags z n h c).r8 .F = flagByte z n h c := by
  simp [State.setFlags, F_setFlag]

@[simp] theorem r8_setFlags (s : State) (z n h c : Bool) (q : Reg8) (hq : q ≠ .F) :
    (s.setFlags z n h c).r8 q = s.r8 q := by
  simp [State.setFlags, hq]

@[simp] theorem flag_setR8_other (s : State) (r : Reg8) (v : Byte) (f : Flag) (h : r ≠ .F) :
    (s.setR8 r v).flag f = s.flag f := by
  simp [State.flag, Ne.symm h]

/-- No flag byte has a bit in its low nibble (R34, R42). -/
@[simp] theorem flagByte_low (z n h c : Bool) : flagByte z n h c &&& 0x0F = 0 := by
  revert z n h c
  decide

@[simp] theorem setFlag_int (s : State) (f : Flag) (b : Bool) : (s.setFlag f b).int = s.int := rfl
@[simp] theorem setFlag_tick (s : State) (f : Flag) (b : Bool) : (s.setFlag f b).tick = s.tick := rfl
@[simp] theorem setFlag_fault (s : State) (f : Flag) (b : Bool) : (s.setFlag f b).fault = s.fault := rfl
@[simp] theorem setFlag_scratch (s : State) (f : Flag) (b : Bool) : (s.setFlag f b).scratch = s.scratch := rfl
@[simp] theorem setFlag_bus (s : State) (f : Flag) (b : Bool) : (s.setFlag f b).bus = s.bus := rfl
@[simp] theorem setFlag_params (s : State) (f : Flag) (b : Bool) : (s.setFlag f b).params = s.params := rfl
@[simp] theorem setFlag_inputs (s : State) (f : Flag) (b : Bool) : (s.setFlag f b).inputs = s.inputs := rfl
@[simp] theorem setFlags_int (s : State) (z n h c : Bool) : (s.setFlags z n h c).int = s.int := rfl
@[simp] theorem setFlags_tick (s : State) (z n h c : Bool) : (s.setFlags z n h c).tick = s.tick := rfl
@[simp] theorem setFlags_fault (s : State) (z n h c : Bool) : (s.setFlags z n h c).fault = s.fault := rfl
@[simp] theorem setFlags_scratch (s : State) (z n h c : Bool) : (s.setFlags z n h c).scratch = s.scratch := rfl
@[simp] theorem setFlags_bus (s : State) (z n h c : Bool) : (s.setFlags z n h c).bus = s.bus := rfl
@[simp] theorem setFlags_params (s : State) (z n h c : Bool) : (s.setFlags z n h c).params = s.params := rfl
@[simp] theorem setFlags_inputs (s : State) (z n h c : Bool) : (s.setFlags z n h c).inputs = s.inputs := rfl
@[simp] theorem setFlags_sp (s : State) (z n h c : Bool) : (s.setFlags z n h c).regs.sp = s.regs.sp := rfl
@[simp] theorem setFlags_pc (s : State) (z n h c : Bool) : (s.setFlags z n h c).regs.pc = s.regs.pc := rfl

end Sys2Proof.Machine
end

