-- ==== Sys2Proof/Laws/Ops.lean ====
section
/-! SUPPORT. One lemma per shared operation that says what it does: the stack, and the whole of an instruction around its
handler. -/

namespace Sys2Proof.Machine

/-! ## The stack (00_scope.md R16) -/

@[simp] theorem push16_sp (s : State) (v : Word) : (s.push16 v).regs.sp = s.regs.sp - 1 - 1 := rfl
@[simp] theorem push16_pc (s : State) (v : Word) : (s.push16 v).regs.pc = s.regs.pc := rfl
@[simp] theorem r8_push16 (s : State) (v : Word) (q : Reg8) : (s.push16 v).r8 q = s.r8 q := by cases q <;> rfl

/-- A push is two writes, the high byte first (00_scope.md R16). -/
@[simp] theorem push16_bus (s : State) (v : Word) :
    (s.push16 v).bus = (s.bus.afterWrite (s.regs.sp - 1) (hi8 v)).afterWrite (s.regs.sp - 1 - 1) (lo8 v) := rfl

theorem sub_one_ne (w : Word) : w ≠ w - 1 := by bv_omega

theorem add_one_ne (w : Word) : w ≠ w + 1 := by bv_omega

@[simp] theorem pop16_fst (s : State) :
    s.pop16.1 = cat16 ((s.memRead s.regs.sp).2.readByte (s.regs.sp + 1)) (s.readByte s.regs.sp) := rfl
@[simp] theorem pop16_sp (s : State) : s.pop16.2.regs.sp = s.regs.sp + 1 + 1 := rfl
@[simp] theorem pop16_pc (s : State) : s.pop16.2.regs.pc = s.regs.pc := rfl
@[simp] theorem r8_pop16 (s : State) (q : Reg8) : s.pop16.2.r8 q = s.r8 q := by cases q <;> rfl
/-- A pop is two reads, the low byte first (00_scope.md R16). -/
@[simp] theorem pop16_bus (s : State) :
    s.pop16.2.bus = (s.bus.afterRead s.regs.sp).afterRead (s.regs.sp + 1) := rfl

theorem push16_accesses (s : State) (v : Word) :
    Accesses [.write (s.regs.sp - 1) (hi8 v), .write (s.regs.sp - 1 - 1) (lo8 v)] s (s.push16 v) :=
  ⟨rfl, List.append_assoc ..⟩

theorem pop16_accesses (s : State) :
    Accesses [.read s.regs.sp (s.readByte s.regs.sp),
      .read (s.regs.sp + 1) ((s.memRead s.regs.sp).2.readByte (s.regs.sp + 1))] s s.pop16.2 :=
  ⟨rfl, List.append_assoc ..⟩

/-! ## The whole of an instruction around its handler (10_state.md R38, R49) -/

@[simp] theorem complete_int (len base : Nat) (h : State → State) (s : State) :
    (complete len base h s).int = (h (s.fetched len)).int := by simp [complete]
@[simp] theorem complete_fault (len base : Nat) (h : State → State) (s : State) :
    (complete len base h s).fault = (h (s.fetched len)).fault := by simp [complete]
@[simp] theorem complete_bus (len base : Nat) (h : State → State) (s : State) :
    (complete len base h s).bus = (h (s.fetched len)).bus := by simp [complete]
@[simp] theorem complete_params (len base : Nat) (h : State → State) (s : State) :
    (complete len base h s).params = (h (s.fetched len)).params := by simp [complete]
@[simp] theorem complete_inputs (len base : Nat) (h : State → State) (s : State) :
    (complete len base h s).inputs = (h (s.fetched len)).inputs := by simp [complete]
@[simp] theorem r8_complete (len base : Nat) (h : State → State) (s : State) (q : Reg8) :
    (complete len base h s).r8 q = (h (s.fetched len)).r8 q := by simp [complete]

@[simp] theorem advancePc_sp (s : State) : s.advancePc.regs.sp = s.regs.sp := by
  unfold State.advancePc
  split <;> rfl

@[simp] theorem complete_sp (len base : Nat) (h : State → State) (s : State) :
    (complete len base h s).regs.sp = (h (s.fetched len)).regs.sp := by
  simp [complete]

@[simp] theorem complete_byteAt (len base : Nat) (h : State → State) (s : State) (a : Word) :
    (complete len base h s).byteAt a = (h (s.fetched len)).byteAt a := byteAt_congr (by simp) a

/-- PC after an instruction: the handler's target, or past the bytes consumed (R38). -/
theorem complete_pc (len base : Nat) (h : State → State) (s : State) :
    (complete len base h s).regs.pc =
      if (h (s.fetched len)).scratch.jumped then (h (s.fetched len)).regs.pc
      else (h (s.fetched len)).regs.pc + BitVec.ofNat 16 (min (h (s.fetched len)).scratch.bc 3) := by
  simp only [complete, updateTick_regs, charge_regs, State.advancePc]
  split <;> rfl

/-- The scratch after an instruction: the handler's, with the cost added (R49). -/
theorem complete_scratch (len base : Nat) (h : State → State) (s : State) :
    (complete len base h s).scratch =
      { (h (s.fetched len)).scratch with
        cost := (h (s.fetched len)).scratch.cost + (base + (h (s.fetched len)).scratch.extraCycles) } := by
  simp [complete]

theorem complete_tick (len base : Nat) (h : State → State) (s : State) :
    (complete len base h s).tick = (h (s.fetched len)).tick + BitVec.ofNat 16 (complete len base h s).scratch.cost := by
  simp [complete]

/-- A handler that leaves the scratch, PC and TickCounter alone advances past its bytes for its base cost. -/
theorem complete_advances (len base : Nat) (h : State → State) (s : State) (hl : len ≤ 3)
    (hs : (h (s.fetched len)).scratch = (s.fetched len).scratch) (hp : (h (s.fetched len)).regs.pc = s.regs.pc)
    (ht : (h (s.fetched len)).tick = s.tick) : Advances len base s (complete len base h s) := by
  refine ⟨?_, ?_, ?_⟩
  · rw [complete_pc, hs, hp]
    simp [Scratch.start, Nat.min_eq_left hl]
  · rw [complete_tick, complete_scratch, hs, ht]
    simp [Scratch.start]
  · rw [complete_scratch, hs]
    simp [Scratch.start]

/-- A handler that jumps to `target` with `bonus` extra cycles transfers there for the base cost and the bonus. -/
theorem complete_transfers (len base bonus : Nat) (target : Word) (h : State → State) (s : State)
    (hs : (h (s.fetched len)).scratch = { bc := len, jumped := true, extraCycles := bonus, cost := 0 })
    (hp : (h (s.fetched len)).regs.pc = target) (ht : (h (s.fetched len)).tick = s.tick) :
    Transfers target len (base + bonus) bonus s (complete len base h s) := by
  refine ⟨?_, ?_, ?_⟩
  · rw [complete_pc, hs, hp]
    rfl
  · rw [complete_tick, complete_scratch, hs, ht]
    simp
  · rw [complete_scratch, hs]
    simp

end Sys2Proof.Machine
end

