-- ==== Sys2Proof/Laws/Accesses.lean ====
section
/-! SUPPORT. What a list of bus accesses does, said once: to the answers and the canonical form whatever the bus, and to
every byte of a plain RAM. The clauses `KeepsBytesOutside` and `Stores` of a claim follow from its `Accesses`. -/

namespace Sys2Proof.Machine

/-- The bytes that a list of accesses offers to the bus, in order. -/
def writesOf : List BusAccess → List (Word × Byte)
  | [] => []
  | .read _ _ :: l => writesOf l
  | .write a v :: l => (a, v) :: writesOf l

theorem writesOf_append (l m : List BusAccess) : writesOf (l ++ m) = writesOf l ++ writesOf m := by
  induction l with
  | nil => rfl
  | cons c l ih => cases c <;> simp [writesOf, ih]

theorem mem_writesOf {l : List BusAccess} {a : Word} {v : Byte} : (a, v) ∈ writesOf l ↔ BusAccess.write a v ∈ l := by
  induction l with
  | nil => simp [writesOf]
  | cons c l ih => cases c <;> simp [writesOf, ih]

theorem Memory.writeAll_append (m : Memory) (l k : List (Word × Byte)) :
    m.writeAll (l ++ k) = (m.writeAll l).writeAll k := by
  induction l generalizing m with
  | nil => rfl
  | cons c l ih => exact ih _

/-- Storing several bytes leaves every other address alone. -/
theorem Memory.read_writeAll_other (m : Memory) (l : List (Word × Byte)) (a : Word) (h : ∀ v, (a, v) ∉ l) :
    (m.writeAll l).read a.toNat = m.read a.toNat := by
  induction l generalizing m with
  | nil => rfl
  | cons c l ih =>
    obtain ⟨b, w⟩ := c
    refine (ih _ fun v hv => h v (.tail _ hv)).trans (Memory.read_write_other m _ _ w fun e => h w ?_)
    rw [BitVec.eq_of_toNat_eq e]
    exact .head _

theorem wf_perform (b : Bus) (l : List BusAccess) (h : b.mem.wf) : (b.perform l).mem.wf := by
  induction l generalizing b with
  | nil => exact h
  | cons c l ih =>
    cases c with
    | read a v => exact ih _ (wf_afterRead b a h)
    | write a v => exact ih _ (wf_afterWrite b a v h)

/-- Each access takes one answer. -/
theorem perform_answers (b : Bus) (l : List BusAccess) : (b.perform l).answers = b.answers.drop l.length := by
  induction l generalizing b with
  | nil => rfl
  | cons c l ih => cases c <;> simp [Bus.perform, ih]

/-- On a plain RAM the accesses store what they write, and nothing else. -/
theorem perform_mem_plain (b : Bus) (l : List BusAccess) (h : b.answers = []) :
    (b.perform l).mem = b.mem.writeAll (writesOf l) := by
  induction l generalizing b with
  | nil => rfl
  | cons c l ih =>
    cases c with
    | read a v => rw [Bus.perform, ih _ (afterRead_answers_plain b a h), afterRead_mem_plain b a h, writesOf]
    | write a v =>
      rw [Bus.perform, ih _ (afterWrite_answers_plain b a v h), afterWrite_mem_plain b a v h, writesOf,
        Memory.writeAll]

/-- The addresses an instruction's accesses write are all that can change on a plain RAM. -/
theorem Accesses.keepsBytes {l : List BusAccess} {s t : State} (h : Accesses l s t) (as : List Word)
    (hw : ∀ a v, BusAccess.write a v ∈ l → a ∈ as) : KeepsBytesOutside as s t := by
  intro hp a ha
  unfold State.byteAt
  rw [h.1, perform_mem_plain _ _ hp]
  exact Memory.read_writeAll_other _ _ _ fun v hv => ha (hw a v (mem_writesOf.mp hv))

/-- On a plain RAM the last byte written to an address is there afterwards. -/
theorem Accesses.stores {l k : List BusAccess} {a : Word} {v : Byte} {s t : State}
    (h : Accesses (l ++ .write a v :: k) s t) (hk : ∀ w, BusAccess.write a w ∉ k) : Stores a v s t := by
  intro hp hw
  unfold State.byteAt
  rw [h.1, perform_mem_plain _ _ hp, writesOf_append, Memory.writeAll_append, writesOf, Memory.writeAll,
    Memory.read_writeAll_other _ _ _ fun w hm => hk w (mem_writesOf.mp hm)]
  exact Memory.read_write_same _ 0 _ _ (Memory.wf_writeAll _ _ hw)

theorem Accesses.wf {l : List BusAccess} {s t : State} (h : Accesses l s t) (hw : s.bus.mem.wf) : t.bus.mem.wf := by
  rw [h.1]
  exact wf_perform _ l hw

theorem Accesses.none {s t : State} (h : t.bus = s.bus) : Accesses [] s t := ⟨h, by rw [h, List.append_nil]⟩

end Sys2Proof.Machine
end

