-- ==== Sys2Proof/Laws/Exec.lean ====
section
/-! SUPPORT. What executing an instruction can be, said once: an illegal opcode's fault mark, or one of the handler forms
inside `complete`. A claim about every instruction is a case split over these forms, not over 512 constructors. -/

namespace Sys2Proof.Machine

/-- The handler forms of the instruction set. -/
inductive IsHandler : (State → State) → Prop
  | loadReg (d r : Reg8) (hd : d ≠ .F) : IsHandler (loadReg d r)
  | loadImm (d : Reg8) (v : Byte) (hd : d ≠ .F) : IsHandler (loadImm d v)
  | loadFrom (d : Reg8) (a : Word) (hd : d ≠ .F) : IsHandler (loadFrom d a)
  | loadAtHL (d : Reg8) (hd : d ≠ .F) : IsHandler (loadAtHL d)
  | storeAtHL (r : Reg8) : IsHandler (storeAtHL r)
  | storeImmAtHL (v : Byte) : IsHandler (storeImmAtHL v)
  | storeA (a : Word) : IsHandler (storeA a)
  | loadAAtPair (rr : Reg16) : IsHandler (loadAAtPair rr)
  | storeAAtPair (rr : Reg16) : IsHandler (storeAAtPair rr)
  | loadAAtC : IsHandler loadAAtC
  | storeAAtC : IsHandler storeAAtC
  | storeAThenStep (w : Word) : IsHandler (storeAThenStep w)
  | loadAThenStep (w : Word) : IsHandler (loadAThenStep w)
  | loadPair (rr : Reg16) (v : Word) (h1 : rr ≠ .AF) (h2 : rr ≠ .PC) : IsHandler (loadPair rr v)
  | storeSP (a : Word) : IsHandler (storeSP a)
  | loadSPHL : IsHandler loadSPHL
  | loadHLSP (n : Byte) : IsHandler (loadHLSP n)
  | pushPair (qq : Reg16) (h : qq ≠ .PC) : IsHandler (pushPair qq)
  | popPair (qq : Reg16) (h1 : qq ≠ .SP) (h2 : qq ≠ .PC) : IsHandler (popPair qq)
  | aluReg (op : AluOp) (r : Reg8) : IsHandler (aluReg op r)
  | aluAtHL (op : AluOp) : IsHandler (aluAtHL op)
  | aluImm (op : AluOp) (b : Byte) : IsHandler (aluImm op b)
  | incOperand (o : Operand8) (h : o ≠ .reg .F) : IsHandler (incOperand o)
  | decOperand (o : Operand8) (h : o ≠ .reg .F) : IsHandler (decOperand o)
  | decimalAdjust : IsHandler decimalAdjust
  | complementA : IsHandler complementA
  | setCarry : IsHandler setCarry
  | complementCarry : IsHandler complementCarry
  | addHL (rr : Reg16) : IsHandler (addHL rr)
  | incPair (rr : Reg16) (h1 : rr ≠ .AF) (h2 : rr ≠ .PC) : IsHandler (incPair rr)
  | decPair (rr : Reg16) (h1 : rr ≠ .AF) (h2 : rr ≠ .PC) : IsHandler (decPair rr)
  | addSP (n : Byte) : IsHandler (addSP n)
  | rotateA (op : ShiftOp) : IsHandler (rotateA op)
  | shiftOperand (op : ShiftOp) (o : Operand8) (h : o ≠ .reg .F) : IsHandler (shiftOperand op o)
  | bitTest (b : Nat) (o : Operand8) : IsHandler (bitTest b o)
  | bitReset (b : Nat) (o : Operand8) (h : o ≠ .reg .F) : IsHandler (bitReset b o)
  | bitSet (b : Nat) (o : Operand8) (h : o ≠ .reg .F) : IsHandler (bitSet b o)
  | cbHandler (sub : Byte) : IsHandler (cbHandler sub)
  | jump (a : Word) : IsHandler (jump a)
  | jumpHL : IsHandler jumpHL
  | jumpRel (n : Byte) : IsHandler (jumpRel n)
  | call (a : Word) : IsHandler (call a)
  | returnSub : IsHandler returnSub
  | returnFromInterrupt : IsHandler returnFromInterrupt
  | restart (t : Byte) : IsHandler (restart t)
  | whenTaken4 (cc : Cond) (h : State → State) (hh : IsHandler h) : IsHandler (whenTaken cc 4 h)
  | whenTaken12 (cc : Cond) (h : State → State) (hh : IsHandler h) : IsHandler (whenTaken cc 12 h)
  | noOperation : IsHandler noOperation
  | enterHalt : IsHandler enterHalt
  | enterStop : IsHandler enterStop
  | disableInterrupts : IsHandler disableInterrupts
  | enableInterrupts : IsHandler enableInterrupts

theorem baseCost_mod (op : Byte) : baseCost op % 4 = 0 := by
  revert op
  decide

theorem cbBase_mod (sub : Byte) : cbBase sub % 4 = 0 := by
  revert sub
  decide

/-- Every instruction answers a next state: the fault mark of an illegal opcode, or a handler form inside `complete`. -/
theorem exec_cases (i : Instr) (s : State) :
    (∃ op, illegalOpcodes.contains op = true ∧ exec i s = .next (s.raiseIllegal op)) ∨
      ∃ len base h, len ≤ 3 ∧ base % 4 = 0 ∧ IsHandler h ∧ exec i s = .next (complete len base h s) := by
  cases i
  case prefixCB sub =>
    refine .inr ⟨2, _, _, by decide, ?_, .cbHandler sub, rfl⟩
    rw [Nat.add_mod, baseCost_mod, cbBase_mod]
  all_goals first
    | refine .inr ⟨_, _, _, ?_, ?_, ?_, rfl⟩
      · exact Nat.le_of_ble_eq_true rfl
      · rfl
      · repeat' (with_reducible constructor)
        all_goals nofun
    | exact .inl ⟨_, by decide, rfl⟩

end Sys2Proof.Machine
end

