-- ==== Sys2Proof/Laws/Frames.lean ====
section
/-! SUPPORT. The frame of a whole instruction from what its handler does: registers, control state, memory and accesses,
each by one lemma. -/

namespace Sys2Proof.Machine

/-! ## Reading through the operations -/

@[simp] theorem fetched_byteAt (s : State) (n : Nat) (a : Word) : (s.fetched n).byteAt a = s.byteAt a := rfl
@[simp] theorem fetched_readByte (s : State) (n : Nat) (a : Word) : (s.fetched n).readByte a = s.readByte a := rfl
@[simp] theorem fetched_flag (s : State) (n : Nat) (f : Flag) : (s.fetched n).flag f = s.flag f := rfl
@[simp] theorem fetched_r16 (s : State) (n : Nat) (rr : Reg16) : (s.fetched n).r16 rr = s.r16 rr := rfl
@[simp] theorem memRead_flag (s : State) (a : Word) (f : Flag) : (s.memRead a).2.flag f = s.flag f := rfl
@[simp] theorem memRead_r16 (s : State) (a : Word) (rr : Reg16) : (s.memRead a).2.r16 rr = s.r16 rr := rfl
@[simp] theorem memWrite_flag (s : State) (a : Word) (v : Byte) (f : Flag) : (s.memWrite a v).flag f = s.flag f := rfl
@[simp] theorem r16_AF (s : State) : s.r16 .AF = s.regs.af := rfl
@[simp] theorem r16_BC (s : State) : s.r16 .BC = s.regs.bc := rfl
@[simp] theorem r16_DE (s : State) : s.r16 .DE = s.regs.de := rfl
@[simp] theorem r16_HL (s : State) : s.r16 .HL = s.regs.hl := rfl
@[simp] theorem r16_SP (s : State) : s.r16 .SP = s.regs.sp := rfl
@[simp] theorem setR8_byteAt (s : State) (r : Reg8) (v : Byte) (a : Word) : (s.setR8 r v).byteAt a = s.byteAt a :=
  byteAt_congr (by simp) a
@[simp] theorem setR16_byteAt (s : State) (rr : Reg16) (v a : Word) : (s.setR16 rr v).byteAt a = s.byteAt a :=
  byteAt_congr (by simp) a
@[simp] theorem setFlag_byteAt (s : State) (f : Flag) (b : Bool) (a : Word) : (s.setFlag f b).byteAt a = s.byteAt a := rfl
@[simp] theorem setFlags_byteAt (s : State) (z n h c : Bool) (a : Word) :
    (s.setFlags z n h c).byteAt a = s.byteAt a := rfl

/-! ## The frame of `complete` -/

theorem complete_onlyReg8 (rs : List Reg8) (len base : Nat) (h : State → State) (s : State)
    (hr : ∀ q, q ∉ rs → (h (s.fetched len)).r8 q = s.r8 q) (hsp : (h (s.fetched len)).regs.sp = s.regs.sp)
    (hi : (h (s.fetched len)).int = s.int) (hf : (h (s.fetched len)).fault = s.fault)
    (hp : (h (s.fetched len)).params = s.params) (hn : (h (s.fetched len)).inputs = s.inputs) :
    OnlyReg8 rs s (complete len base h s) :=
  ⟨fun q hq => (r8_complete ..).trans (hr q hq), (complete_sp ..).trans hsp, (complete_int ..).trans hi,
    (complete_fault ..).trans hf, (complete_params ..).trans hp, (complete_inputs ..).trans hn⟩

theorem complete_onlyReg16 (rs : List Reg16) (len base : Nat) (h : State → State) (s : State)
    (hr : ∀ q, q ∉ rs → q ≠ .PC → (h (s.fetched len)).r16 q = s.r16 q) (hi : (h (s.fetched len)).int = s.int)
    (hf : (h (s.fetched len)).fault = s.fault) (hp : (h (s.fetched len)).params = s.params)
    (hn : (h (s.fetched len)).inputs = s.inputs) : OnlyReg16 rs s (complete len base h s) := by
  refine ⟨fun q hq hpc => ?_, (complete_int ..).trans hi, (complete_fault ..).trans hf, (complete_params ..).trans hp,
    (complete_inputs ..).trans hn⟩
  rw [← hr q hq hpc]
  unfold complete State.advancePc
  split <;> cases q <;> first | rfl | exact absurd rfl hpc

/-- The accesses of an instruction are its handler's. `KeepsBytesOutside` and `Stores` follow, by `Accesses.keepsBytes`
and `Accesses.stores`. -/
theorem complete_accesses (l : List BusAccess) (len base : Nat) (h : State → State) (s : State)
    (hb : Accesses l s (h (s.fetched len))) : Accesses l s (complete len base h s) := by
  unfold Accesses
  rw [complete_bus]
  exact hb

/-- An instruction whose handler makes no access. -/
theorem complete_noAccess (len base : Nat) (h : State → State) (s : State) (hb : (h (s.fetched len)).bus = s.bus) :
    Accesses [] s (complete len base h s) ∧ KeepsBytesOutside [] s (complete len base h s) := by
  have a := complete_accesses [] len base h s (.none hb)
  exact ⟨a, a.keepsBytes [] (by simp)⟩

/-- An instruction whose handler makes one read. -/
theorem complete_reads (a : Word) (len base : Nat) (h : State → State) (s : State)
    (hb : (h (s.fetched len)).bus = s.bus.afterRead a) :
    Accesses [.read a (s.readByte a)] s (complete len base h s) ∧ KeepsBytesOutside [] s (complete len base h s) := by
  have c := complete_accesses [.read a (s.readByte a)] len base h s ⟨hb, by rw [hb]; rfl⟩
  exact ⟨c, c.keepsBytes [] (by simp)⟩

/-- An instruction whose handler makes one write. -/
theorem complete_stores (a : Word) (v : Byte) (len base : Nat) (h : State → State) (s : State)
    (hb : (h (s.fetched len)).bus = s.bus.afterWrite a v) :
    Accesses [.write a v] s (complete len base h s) ∧ Stores a v s (complete len base h s) ∧
      KeepsBytesOutside [a] s (complete len base h s) := by
  have c := complete_accesses [.write a v] len base h s ⟨hb, by rw [hb]; rfl⟩
  exact ⟨c, Accesses.stores (l := []) c (by simp), c.keepsBytes [a] (by simp)⟩

/-- An instruction whose handler reads a byte and then writes it. -/
theorem complete_modifies (a : Word) (v : Byte) (len base : Nat) (h : State → State) (s : State)
    (hb : (h (s.fetched len)).bus = (s.bus.afterRead a).afterWrite a v) :
    Accesses [.read a (s.readByte a), .write a v] s (complete len base h s) ∧ Stores a v s (complete len base h s) ∧
      KeepsBytesOutside [a] s (complete len base h s) := by
  have c := complete_accesses [.read a (s.readByte a), .write a v] len base h s ⟨hb, by rw [hb]; simp⟩
  exact ⟨c, Accesses.stores (l := [.read a (s.readByte a)]) c (by simp), c.keepsBytes [a] (by simp)⟩

/-- An instruction whose handler writes two bytes at different addresses. -/
theorem complete_storesTwo (a b : Word) (v w : Byte) (len base : Nat) (h : State → State) (s : State) (hab : a ≠ b)
    (hb : (h (s.fetched len)).bus = (s.bus.afterWrite a v).afterWrite b w) :
    Accesses [.write a v, .write b w] s (complete len base h s) ∧ Stores a v s (complete len base h s) ∧
      Stores b w s (complete len base h s) ∧ KeepsBytesOutside [a, b] s (complete len base h s) := by
  have c := complete_accesses [.write a v, .write b w] len base h s ⟨hb, by rw [hb]; simp⟩
  refine ⟨c, Accesses.stores (l := []) c (by simp [hab]), Accesses.stores (l := [.write a v]) c (by simp),
    c.keepsBytes [a, b] ?_⟩
  intro x y hx
  simp only [List.mem_cons, BusAccess.write.injEq, List.not_mem_nil, or_false] at hx ⊢
  exact hx.imp And.left And.left

/-! ## Register fields and conditions -/

/-- A register operand is never F (30_encoding.md R104). -/
theorem ofField_ne_F {f : BitVec 3} {r : Reg8} (h : Operand8.ofField f = .reg r) : r ≠ .F := by
  rintro rfl
  revert f
  decide

end Sys2Proof.Machine
end

