-- ==== Sys2Proof/Laws/Handlers.lean ====
section
/-! SUPPORT. What a handler can do, said once: it leaves the fault mark, the parameters, the inputs, TickCounter and the
cost alone, keeps F's low nibble 0, and makes at most two accesses, which are all it does to the bus. -/

namespace Sys2Proof.Machine

/-- Registers, flags and PC may have changed, F's low nibble stays 0, and nothing else has changed. -/
structure OnlyRegisters (s t : State) : Prop where
  fault : t.fault = s.fault
  params : t.params = s.params
  inputs : t.inputs = s.inputs
  tick : t.tick = s.tick
  bus : t.bus = s.bus
  scratch : t.scratch = s.scratch
  int : t.int = s.int
  low : s.r8 .F &&& 0x0F = 0 → t.r8 .F &&& 0x0F = 0

theorem OnlyRegisters.refl (s : State) : OnlyRegisters s s := ⟨rfl, rfl, rfl, rfl, rfl, rfl, rfl, id⟩

theorem OnlyRegisters.trans {s t u : State} (a : OnlyRegisters s t) (b : OnlyRegisters t u) : OnlyRegisters s u :=
  ⟨b.fault.trans a.fault, b.params.trans a.params, b.inputs.trans a.inputs, b.tick.trans a.tick, b.bus.trans a.bus,
    b.scratch.trans a.scratch, b.int.trans a.int, fun h => b.low (a.low h)⟩

theorem setR8_onlyRegisters (s : State) (r : Reg8) (v : Byte) : OnlyRegisters s (s.setR8 r v) := by
  refine ⟨by simp, by simp, by simp, by simp, by simp, by simp, by simp, fun h => ?_⟩
  rw [r8_setR8]
  split
  · split
    · simp
    · simp_all
  · exact h

theorem setR16_onlyRegisters (s : State) (rr : Reg16) (v : Word) : OnlyRegisters s (s.setR16 rr v) := by
  refine ⟨by simp, by simp, by simp, by simp, by simp, by simp, by simp, fun h => ?_⟩
  cases rr <;> first | exact h | simp [State.setR16, State.r8]

theorem setFlag_onlyRegisters (s : State) (f : Flag) (b : Bool) : OnlyRegisters s (s.setFlag f b) :=
  setR8_onlyRegisters s .F _

theorem setFlags_onlyRegisters (s : State) (z n h c : Bool) : OnlyRegisters s (s.setFlags z n h c) :=
  ((setFlag_onlyRegisters s _ _).trans (setFlag_onlyRegisters _ _ _)).trans
    ((setFlag_onlyRegisters _ _ _).trans (setFlag_onlyRegisters _ _ _))

theorem setFlagsZNH_onlyRegisters (s : State) (z n h : Bool) :
    OnlyRegisters s (((s.setFlag .Z z).setFlag .N n).setFlag .H h) :=
  ((setFlag_onlyRegisters s _ _).trans (setFlag_onlyRegisters _ _ _)).trans (setFlag_onlyRegisters _ _ _)

theorem aluWrite_onlyRegisters (op : AluOp) (b : Byte) (s : State) : OnlyRegisters s (aluWrite op b s) := by
  cases op
  case cp => exact setFlags_onlyRegisters s _ _ _ _
  all_goals exact (setR8_onlyRegisters s .A _).trans (setFlags_onlyRegisters _ _ _ _ _)

/-- What a handler can do. -/
structure HandlerEffect (s t : State) : Prop where
  fault : t.fault = s.fault
  params : t.params = s.params
  inputs : t.inputs = s.inputs
  tick : t.tick = s.tick
  cost : t.scratch.cost = s.scratch.cost
  low : s.r8 .F &&& 0x0F = 0 → t.r8 .F &&& 0x0F = 0
  extra : s.scratch.extraCycles = 0 →
    t.scratch.extraCycles = 0 ∨ t.scratch.extraCycles = 4 ∨ t.scratch.extraCycles = 12
  accesses : ∃ l : List BusAccess, Accesses l s t ∧ l.length ≤ 2

theorem HandlerEffect.refl (s : State) : HandlerEffect s s :=
  ⟨rfl, rfl, rfl, rfl, rfl, id, .inl, [], .none rfl, by simp⟩

/-- Registers and flags may change after the accesses. -/
theorem HandlerEffect.then {s t u : State} (a : HandlerEffect s t) (b : OnlyRegisters t u) : HandlerEffect s u :=
  ⟨b.fault.trans a.fault, b.params.trans a.params, b.inputs.trans a.inputs, b.tick.trans a.tick,
    (congrArg Scratch.cost b.scratch).trans a.cost, fun h => b.low (a.low h),
    fun h => by rw [b.scratch]; exact a.extra h, by unfold Accesses; rw [b.bus]; exact a.accesses⟩

theorem memRead_effect (s : State) (a : Word) : HandlerEffect s (s.memRead a).2 :=
  ⟨rfl, rfl, rfl, rfl, rfl, id, .inl, [.read a (s.readByte a)], ⟨rfl, rfl⟩, by simp⟩

theorem memWrite_effect (s : State) (a : Word) (v : Byte) : HandlerEffect s (s.memWrite a v) :=
  ⟨rfl, rfl, rfl, rfl, rfl, id, .inl, [.write a v], ⟨rfl, rfl⟩, by simp⟩

theorem readThenWrite_effect (s : State) (a : Word) (v : Byte) : HandlerEffect s ((s.memRead a).2.memWrite a v) :=
  ⟨rfl, rfl, rfl, rfl, rfl, id, .inl, [.read a (s.readByte a), .write a v], ⟨rfl, List.append_assoc ..⟩, by simp⟩

theorem push16_effect (s : State) (v : Word) : HandlerEffect s (s.push16 v) :=
  ⟨rfl, rfl, rfl, rfl, rfl, id, .inl, _, push16_accesses s v, by simp⟩

theorem pop16_effect (s : State) : HandlerEffect s s.pop16.2 :=
  ⟨rfl, rfl, rfl, rfl, rfl, id, .inl, _, pop16_accesses s, by simp⟩

/-- A jump marks itself and moves PC; the accesses before it stand. -/
theorem HandlerEffect.jump {s t : State} (a : HandlerEffect s t) (target : Word) : HandlerEffect s (t.jumpTo target) :=
  ⟨a.fault, a.params, a.inputs, a.tick, a.cost, fun h => by rw [r8_jumpTo]; exact a.low h, a.extra, a.accesses⟩

theorem writeOperand_effect (s : State) (o : Operand8) (v : Byte) :
    HandlerEffect s ((s.readOperand o).2.writeOperand o v) := by
  cases o with
  | reg r => exact (HandlerEffect.refl s).then (setR8_onlyRegisters s r v)
  | atHL => exact readThenWrite_effect s (s.r16 .HL) v

theorem readOperand_effect (s : State) (o : Operand8) : HandlerEffect s (s.readOperand o).2 := by
  cases o with
  | reg r => exact HandlerEffect.refl s
  | atHL => exact memRead_effect s (s.r16 .HL)

theorem loadFrom_effect (d : Reg8) (a : Word) (s : State) : HandlerEffect s (loadFrom d a s) :=
  (memRead_effect s a).then (setR8_onlyRegisters _ d _)

theorem shiftOperand_effect (op : ShiftOp) (o : Operand8) (s : State) : HandlerEffect s (shiftOperand op o s) :=
  (writeOperand_effect s o _).then (setFlags_onlyRegisters _ _ _ _ _)

theorem bitTest_effect (b : Nat) (o : Operand8) (s : State) : HandlerEffect s (bitTest b o s) :=
  (readOperand_effect s o).then (setFlagsZNH_onlyRegisters _ _ _ _)

/-- Every handler of the instruction set. -/
theorem handler_effect {h : State → State} (hh : IsHandler h) (s : State) : HandlerEffect s (h s) := by
  induction hh with
  | loadReg d r | loadImm d v => exact (HandlerEffect.refl s).then (setR8_onlyRegisters s d _)
  | loadFrom | loadAtHL | loadAAtPair | loadAAtC => exact loadFrom_effect _ _ s
  | storeAtHL | storeImmAtHL | storeA | storeAAtPair | storeAAtC => exact memWrite_effect s _ _
  | storeAThenStep w => exact (memWrite_effect s (s.r16 .HL) (s.r8 .A)).then (setR16_onlyRegisters _ .HL _)
  | loadAThenStep w => exact (loadFrom_effect .A (s.r16 .HL) s).then (setR16_onlyRegisters _ .HL _)
  | loadPair rr v => exact (HandlerEffect.refl s).then (setR16_onlyRegisters s rr v)
  | storeSP a =>
    exact ⟨rfl, rfl, rfl, rfl, rfl, id, .inl, [.write a (lo8 s.regs.sp), .write (a + 1) (hi8 s.regs.sp)],
      ⟨rfl, List.append_assoc ..⟩, by simp⟩
  | loadSPHL => exact (HandlerEffect.refl s).then (setR16_onlyRegisters s .SP _)
  | loadHLSP n =>
    exact ((HandlerEffect.refl s).then (setR16_onlyRegisters s .HL _)).then (setFlags_onlyRegisters _ _ _ _ _)
  | pushPair qq => exact push16_effect s _
  | popPair qq => exact (pop16_effect s).then (setR16_onlyRegisters _ qq _)
  | aluReg op r => exact (HandlerEffect.refl s).then (aluWrite_onlyRegisters op _ s)
  | aluAtHL op => exact (memRead_effect s (s.r16 .HL)).then (aluWrite_onlyRegisters op _ _)
  | aluImm op b => exact (HandlerEffect.refl s).then (aluWrite_onlyRegisters op b s)
  | incOperand o => exact (writeOperand_effect s o _).then (setFlagsZNH_onlyRegisters _ _ _ _)
  | decOperand o => exact (writeOperand_effect s o _).then (setFlagsZNH_onlyRegisters _ _ _ _)
  | decimalAdjust =>
    exact ((HandlerEffect.refl s).then (setR8_onlyRegisters s .A _)).then
      (((setFlag_onlyRegisters _ _ _).trans (setFlag_onlyRegisters _ _ _)).trans (setFlag_onlyRegisters _ _ _))
  | complementA =>
    exact ((HandlerEffect.refl s).then (setR8_onlyRegisters s .A _)).then
      ((setFlag_onlyRegisters _ _ _).trans (setFlag_onlyRegisters _ _ _))
  | setCarry =>
    exact (HandlerEffect.refl s).then
      (((setFlag_onlyRegisters _ _ _).trans (setFlag_onlyRegisters _ _ _)).trans (setFlag_onlyRegisters _ _ _))
  | complementCarry =>
    exact (HandlerEffect.refl s).then
      (((setFlag_onlyRegisters _ _ _).trans (setFlag_onlyRegisters _ _ _)).trans (setFlag_onlyRegisters _ _ _))
  | addHL rr =>
    exact ((HandlerEffect.refl s).then (setR16_onlyRegisters s .HL _)).then
      (((setFlag_onlyRegisters _ _ _).trans (setFlag_onlyRegisters _ _ _)).trans (setFlag_onlyRegisters _ _ _))
  | incPair rr => exact (HandlerEffect.refl s).then (setR16_onlyRegisters s rr _)
  | decPair rr => exact (HandlerEffect.refl s).then (setR16_onlyRegisters s rr _)
  | addSP n =>
    exact ((HandlerEffect.refl s).then (setR16_onlyRegisters s .SP _)).then (setFlags_onlyRegisters _ _ _ _ _)
  | rotateA op =>
    exact ((HandlerEffect.refl s).then (setR8_onlyRegisters s .A _)).then (setFlags_onlyRegisters _ _ _ _ _)
  | shiftOperand op o => exact shiftOperand_effect op o s
  | bitTest b o => exact bitTest_effect b o s
  | bitReset b o => exact writeOperand_effect s o _
  | bitSet b o => exact writeOperand_effect s o _
  | cbHandler sub =>
    unfold cbHandler
    split
    · exact shiftOperand_effect _ _ s
    · exact bitTest_effect _ _ s
    · exact writeOperand_effect s _ _
    · exact writeOperand_effect s _ _
  | jump a => exact (HandlerEffect.refl s).jump a
  | jumpHL => exact (HandlerEffect.refl s).jump _
  | jumpRel n => exact (HandlerEffect.refl s).jump _
  | call a => exact (push16_effect s _).jump a
  | returnSub => exact (pop16_effect s).jump _
  | returnFromInterrupt =>
    obtain ⟨a1, a2, a3, a4, a5, a6, a7, a8⟩ := (pop16_effect s).jump s.pop16.1
    exact ⟨a1, a2, a3, a4, a5, a6, a7, a8⟩
  | restart t => exact (push16_effect s _).jump _
  | whenTaken4 cc h hh ih =>
    unfold whenTaken
    split
    · exact ⟨ih.fault, ih.params, ih.inputs, ih.tick, ih.cost, ih.low, fun _ => .inr (.inl rfl), ih.accesses⟩
    · exact HandlerEffect.refl s
  | whenTaken12 cc h hh ih =>
    unfold whenTaken
    split
    · exact ⟨ih.fault, ih.params, ih.inputs, ih.tick, ih.cost, ih.low, fun _ => .inr (.inr rfl), ih.accesses⟩
    · exact HandlerEffect.refl s
  | noOperation => exact HandlerEffect.refl s
  | enterHalt | enterStop | disableInterrupts | enableInterrupts =>
    exact ⟨rfl, rfl, rfl, rfl, rfl, id, .inl, [], .none rfl, by simp⟩

/-- What every instruction does to the control state, the parameters, the inputs and the bus, and what it charges. -/
theorem exec_effect (i : Instr) (s : State) :
    (∃ op, illegalOpcodes.contains op = true ∧ exec i s = .next (s.raiseIllegal op)) ∨
      ∃ t, exec i s = .next t ∧ t.fault = s.fault ∧ t.params = s.params ∧ t.inputs = s.inputs ∧
        (s.r8 .F &&& 0x0F = 0 → t.r8 .F &&& 0x0F = 0) ∧
        t.tick = s.tick + BitVec.ofNat 16 t.scratch.cost ∧ t.scratch.cost % 4 = 0 ∧
        ∃ l : List BusAccess, Accesses l s t ∧ l.length ≤ 2 := by
  rcases exec_cases i s with h | ⟨len, base, h, -, hb, hh, he⟩
  · exact .inl h
  · have e := handler_effect hh (s.fetched len)
    refine .inr ⟨_, he, by rw [complete_fault]; exact e.fault, by rw [complete_params]; exact e.params,
      by rw [complete_inputs]; exact e.inputs,
      fun hl => by rw [r8_complete]; exact e.low hl, by rw [complete_tick, e.tick]; rfl, ?_,
      by unfold Accesses; rw [complete_bus]; exact e.accesses⟩
    have hc : (h (s.fetched len)).scratch.cost = 0 := e.cost
    have hx : (h (s.fetched len)).scratch.extraCycles % 4 = 0 := by
      rcases e.extra rfl with x | x | x <;> rw [x]
    rw [complete_scratch]
    simp only [hc]
    omega

end Sys2Proof.Machine
end

