-- ==== Sys2Proof/Laws/Step.lean ====
section
/-! SUPPORT. What one call of the step machine can do, said once: the four cases of 60_exceptions.md R404, with the fetch
and the decoding of the executing case worked out. -/

namespace Sys2Proof.Machine

/-! ## Fetching and decoding (30_encoding.md R103, R117) -/

/-- How many bytes the step reads for an opcode. -/
def fetchLength (op : Byte) : Nat := (formatOf op).bytesRead

theorem fetchLength_cases (op : Byte) : fetchLength op = 1 ∨ fetchLength op = 2 ∨ fetchLength op = 3 := by
  unfold fetchLength
  cases formatOf op <;> decide

theorem fetchLength_le (op : Byte) : fetchLength op ≤ 3 := by
  rcases fetchLength_cases op with h | h | h <;> omega

/-- The bytes a fetch reads decode to one instruction with nothing over, and any bytes after them are left alone. -/
theorem decode_fetchLength (op a b : Byte) :
    ∃ i, ∀ rest, decode ([op, a, b].take (fetchLength op) ++ rest) = .ok (i, rest) := by
  unfold fetchLength
  cases h : formatOf op
  case P1 | PSTOP | ILLEGAL => exact ⟨ofPrimary op 0 0, fun rest => by simp [decode, Format.bytesRead, h]⟩
  case P2 => exact ⟨ofPrimary op a 0, fun rest => by simp [decode, Format.bytesRead, h]⟩
  case P3 => exact ⟨ofPrimary op 0 (cat16 b a), fun rest => by simp [decode, Format.bytesRead, h]⟩
  case CB2 => exact ⟨ofCb a, fun rest => by simp [decode, Format.bytesRead, h]⟩

/-- Decoding three bytes leaves the ones the fetch does not read. -/
theorem decode_three (op a b : Byte) (rest : List Byte) :
    ∃ i, decode (op :: a :: b :: rest) = .ok (i, [op, a, b].drop (fetchLength op) ++ rest) ∧
      decode ([op, a, b].take (fetchLength op)) = .ok (i, []) := by
  obtain ⟨i, hi⟩ := decode_fetchLength op a b
  refine ⟨i, ?_, by simpa using hi []⟩
  rw [← hi, ← List.append_assoc, List.take_append_drop]
  rfl

/-- A fetch reads the opcode's bytes in address order, counts them, and changes nothing else. -/
theorem fetch_spec (s : State) (k : Nat) (hk : k = fetchLength (s.readByte s.regs.pc)) :
    s.fetch = (s.bytesAtPc.take k,
      { s with scratch := { s.scratch with bc := k }, bus := s.bus.perform (s.readsAtPc k) }) := by
  have hb : (formatOf (s.memRead s.regs.pc).1).bytesRead = k := hk.symm
  simp only [State.fetch]
  rw [hb]
  rcases fetchLength_cases (s.readByte s.regs.pc) with h | h | h <;> rw [← hk] at h <;> subst h <;> rfl

/-- The reads of a fetch are what the bus answers to them. -/
theorem fetch_accesses (s : State) (k : Nat) :
    (s.bus.perform (s.readsAtPc k)).trace = s.bus.trace ++ s.readsAtPc k := by
  rcases k with _ | _ | _ | k <;> simp [State.readsAtPc, State.bytesAtPc, Bus.perform]

/-! ## The phases before the instruction (60_exceptions.md R403 to R406, R410) -/

@[simp] theorem beginStep_regs (s : State) : s.beginStep.regs = s.regs := rfl
@[simp] theorem beginStep_int (s : State) : s.beginStep.int = s.int := rfl
@[simp] theorem beginStep_tick (s : State) : s.beginStep.tick = s.tick := rfl
@[simp] theorem beginStep_fault (s : State) : s.beginStep.fault = s.fault := rfl
@[simp] theorem beginStep_params (s : State) : s.beginStep.params = s.params := rfl
@[simp] theorem beginStep_inputs (s : State) : s.beginStep.inputs = s.inputs.tail := rfl
@[simp] theorem beginStep_scratch (s : State) : s.beginStep.scratch = Scratch.start := rfl
@[simp] theorem beginStep_answers (s : State) : s.beginStep.bus.answers = s.bus.answers := rfl
@[simp] theorem beginStep_trace (s : State) : s.beginStep.bus.trace = [] := rfl

/-- The four booleans once the wakes are done. -/
def State.wokenInt (s : State) : IntState :=
  { s.int with
    halted := s.int.halted && s.sampledPending == 0
    stopped := s.int.stopped && !s.nextInput.stopWake }

/-- What the wakes leave: the sampled pending set, and the state with Halted and Stopped cleared as they say. -/
theorem wakes_spec (s : State) : s.wakes = (s.sampledPending, { s.beginStep with int := s.wokenInt }) := by
  have hp : (s.beginStep.stopWake s.nextInput.stopWake).pending = s.sampledPending := by
    unfold State.stopWake
    split <;> rfl
  change (State.pending _, State.haltWake _ (State.pending _)) = _
  rw [hp]
  have hi : s.beginStep.int = s.int := beginStep_int s
  generalize s.beginStep = b at hi
  obtain ⟨r, i, tk, f, sc, bu, pa, inp⟩ := b
  simp only at hi
  subst hi
  unfold State.stopWake State.haltWake State.wokenInt
  generalize s.sampledPending = p
  obtain ⟨ime, ei, h, st⟩ := s.int
  cases h <;> cases st <;> cases s.nextInput.stopWake <;> by_cases hz : p = 0#8 <;> simp [hz]

/-- The state an executing step hands to its instruction: the wakes done, a queued enable applied, the bytes fetched. -/
def State.executing (s : State) : State :=
  let k := fetchLength s.nextOpcode
  { s.beginStep with
    int := { ime := s.int.ime || s.int.eiPending, eiPending := false, halted := false, stopped := false }
    scratch := { Scratch.start with bc := k }
    bus := s.beginStep.bus.perform (s.fetchReads k) }

/-! ## The four cases of a step (60_exceptions.md R404) -/

theorem step_faulted (s : State) (h : s.fault ≠ none) : step s = .next s := by
  unfold step
  rw [if_pos]
  exact Option.isSome_iff_ne_none.mpr h

theorem step_dispatch (s : State) (h : s.Dispatches) :
    step s = .next (({ s.beginStep with int := s.wokenInt } : State).dispatch s.sampledPending) := by
  obtain ⟨h1, h2, h3⟩ := h
  have hd : (s.wokenInt.ime && s.sampledPending != 0) = true := by simpa [State.wokenInt, h2] using h3
  simp only [step, wakes_spec, h1]
  rw [if_neg (by simp), if_pos hd]

theorem step_idle (s : State) (h : s.Idles) :
    step s = .next ({ s.beginStep with int := s.wokenInt } : State).idle := by
  obtain ⟨h1, h2, h3⟩ := h
  have hd : ¬(s.int.ime = true ∧ ¬s.sampledPending = 0) := fun ⟨a, b⟩ => b (h2 a)
  have hi : (s.wokenInt.halted || s.wokenInt.stopped) = true := by
    rcases h3 with ⟨a, b⟩ | ⟨a, b⟩ <;> simp [State.wokenInt, a, b]
  simp only [step, wakes_spec, h1]
  rw [if_neg (by simp), if_neg (by simpa [State.wokenInt] using hd), if_pos hi]

/-- An executing step fetches one instruction, decodes it with nothing over, runs it, and answers the state it gives; an
illegal opcode gives back the start state with the fault mark. -/
theorem step_execute (s : State) (h : s.Executes) :
    ∃ i t, decode (s.nextBytes.take (fetchLength (s.nextOpcode))) = .ok (i, []) ∧
      exec i s.executing = .next t ∧ step s = .next (if t.fault.isSome then s.faulted t else t) := by
  obtain ⟨h1, h2, h3, h4⟩ := h
  have hd : ¬(s.int.ime = true ∧ ¬s.sampledPending = 0) := fun ⟨a, b⟩ => b (h2 a)
  have hh : s.wokenInt.halted = false := by
    cases hv : s.int.halted
    · simp [State.wokenInt, hv]
    · simpa [State.wokenInt, hv] using h3 hv
  have hs : s.wokenInt.stopped = false := by
    cases hv : s.int.stopped
    · simp [State.wokenInt, hv]
    · simp [State.wokenInt, h4 hv]
  obtain ⟨i, -, hi⟩ := decode_three s.nextOpcode ((s.beginStep.bus.afterRead s.regs.pc).readByte (s.regs.pc + 1))
    (((s.beginStep.bus.afterRead s.regs.pc).afterRead (s.regs.pc + 1)).readByte (s.regs.pc + 2)) []
  have he : ∃ t, exec i s.executing = .next t := by
    rcases exec_cases i s.executing with ⟨op, -, e⟩ | ⟨len, base, f, -, -, -, e⟩ <;> exact ⟨_, e⟩
  obtain ⟨t, ht⟩ := he
  refine ⟨i, t, hi, ht, ?_⟩
  have hf : (State.applyEi { s.beginStep with int := s.wokenInt }).fetch =
      (s.nextBytes.take (fetchLength (s.nextOpcode)), s.executing) := by
    have hw : s.wokenInt = { s.int with halted := false, stopped := false } := congrArg₂ (IntState.mk _ _) hh hs
    have ha : State.applyEi { s.beginStep with int := s.wokenInt } =
        { s.beginStep with
          int := { ime := s.int.ime || s.int.eiPending, eiPending := false, halted := false, stopped := false } } := by
      rw [hw]
      unfold State.applyEi
      cases he : s.int.eiPending <;> simp [he]
    rw [ha, fetch_spec _ (fetchLength (s.nextOpcode))]
    · rfl
    · rfl
  simp only [step, wakes_spec, h1]
  rw [if_neg (by simp), if_neg (by simpa [State.wokenInt] using hd), if_neg (by simp [hh, hs])]
  unfold executeOne
  have hi' : decode (s.nextBytes.take (fetchLength (s.nextOpcode))) = .ok (i, []) := hi
  simp only [hf, hi', ht]

/-- Every step is of exactly one of the four kinds; these are all of them. -/
theorem step_kinds (s : State) : s.fault ≠ none ∨ s.Dispatches ∨ s.Idles ∨ s.Executes := by
  unfold State.Dispatches State.Idles State.Executes
  by_cases h1 : s.fault = none
  · cases s.int.ime <;> cases s.int.halted <;> cases s.int.stopped <;> cases s.nextInput.stopWake <;>
      by_cases h2 : s.sampledPending = 0#8 <;> simp [h1, h2]
  · exact .inl h1

/-- No step stops (60_exceptions.md R422), and what it answers is one of four states. -/
theorem step_cases (s t : State) (h : step s = .next t) :
    (s.fault ≠ none ∧ t = s) ∨
    (s.Dispatches ∧ t = ({ s.beginStep with int := s.wokenInt } : State).dispatch s.sampledPending) ∨
    (s.Idles ∧ t = ({ s.beginStep with int := s.wokenInt } : State).idle) ∨
    (s.Executes ∧ ∃ i u, decode (s.nextBytes.take (fetchLength (s.nextOpcode))) = .ok (i, []) ∧
      exec i s.executing = .next u ∧ t = if u.fault.isSome then s.faulted u else u) := by
  rcases step_kinds s with k | k | k | k
  · rw [step_faulted s k] at h
    exact .inl ⟨k, by injection h with e; exact e.symm⟩
  · rw [step_dispatch s k] at h
    exact .inr (.inl ⟨k, by injection h with e; exact e.symm⟩)
  · rw [step_idle s k] at h
    exact .inr (.inr (.inl ⟨k, by injection h with e; exact e.symm⟩))
  · obtain ⟨i, u, hd, he, hs⟩ := step_execute s k
    rw [hs] at h
    exact .inr (.inr (.inr ⟨k, i, u, hd, he, by injection h with e; exact e.symm⟩))

/-! ## The interrupt dispatch and the idle step (60_exceptions.md R407, R409) -/

/-- The state whose push a dispatch does: IME false, the IF bit cleared. -/
def State.acknowledged (s : State) (p : Byte) : State :=
  ({ s with int.ime := false } : State).ifClear (lowestPending p)

@[simp] theorem acknowledged_bus (s : State) (p : Byte) : (s.acknowledged p).bus = s.bus.ifClear (lowestPending p) := rfl
@[simp] theorem acknowledged_sp (s : State) (p : Byte) : (s.acknowledged p).regs.sp = s.regs.sp := rfl

theorem dispatch_bus (s : State) (p : Byte) : (s.dispatch p).bus = ((s.acknowledged p).push16 s.regs.pc).bus := rfl
@[simp] theorem dispatch_pc (s : State) (p : Byte) : (s.dispatch p).regs.pc = vector (lowestPending p) := rfl
@[simp] theorem dispatch_sp (s : State) (p : Byte) : (s.dispatch p).regs.sp = s.regs.sp - 1 - 1 := rfl
@[simp] theorem r8_dispatch (s : State) (p : Byte) (q : Reg8) : (s.dispatch p).r8 q = s.r8 q := by cases q <;> rfl
@[simp] theorem dispatch_int (s : State) (p : Byte) : (s.dispatch p).int = { s.int with ime := false } := rfl
@[simp] theorem dispatch_fault (s : State) (p : Byte) : (s.dispatch p).fault = s.fault := rfl
@[simp] theorem dispatch_params (s : State) (p : Byte) : (s.dispatch p).params = s.params := rfl
@[simp] theorem dispatch_inputs (s : State) (p : Byte) : (s.dispatch p).inputs = s.inputs := rfl
@[simp] theorem dispatch_scratch (s : State) (p : Byte) :
    (s.dispatch p).scratch = { s.scratch with cost := s.scratch.cost + 20 } := rfl
@[simp] theorem dispatch_tick (s : State) (p : Byte) :
    (s.dispatch p).tick = s.tick + BitVec.ofNat 16 (s.scratch.cost + 20) := rfl

/-- A dispatch clears the IF bit directly, then pushes PC by two writes, whatever the bus. -/
theorem dispatch_accesses (s : State) (p : Byte) :
    Accesses [.write (s.regs.sp - 1) (hi8 s.regs.pc), .write (s.regs.sp - 1 - 1) (lo8 s.regs.pc)]
      (s.ifClear (lowestPending p)) (s.dispatch p) := push16_accesses (s.acknowledged p) s.regs.pc

theorem wf_dispatch (s : State) (p : Byte) (h : s.bus.mem.wf) : (s.dispatch p).bus.mem.wf := by
  rw [dispatch_bus]
  exact wf_push16 _ _ (wf_ifClear s.bus _ h)

@[simp] theorem idle_regs (s : State) : s.idle.regs = s.regs := rfl
@[simp] theorem r8_idle (s : State) (q : Reg8) : s.idle.r8 q = s.r8 q := rfl
@[simp] theorem idle_int (s : State) : s.idle.int = s.int := rfl
@[simp] theorem idle_fault (s : State) : s.idle.fault = s.fault := rfl
@[simp] theorem idle_params (s : State) : s.idle.params = s.params := rfl
@[simp] theorem idle_inputs (s : State) : s.idle.inputs = s.inputs := rfl
@[simp] theorem idle_bus (s : State) : s.idle.bus = s.bus := rfl
@[simp] theorem idle_tick (s : State) : s.idle.tick = s.tick + BitVec.ofNat 16 (s.scratch.cost + 4) := rfl

end Sys2Proof.Machine
end

