-- ==== Sys2Proof/Tests/Slice0.lean ====
section
/-! SUPPORT. Tests, each expected value from the spec: the encodings of spec/opcode_table.json, the vectors of
95_test_vectors.md; and for each statement with hypotheses a state and operands that meet them. -/

namespace Sys2Proof.Tests

open Sys2Proof.Machine

/-! ## Well-formedness: an ill-formed term for the one check -/

theorem test_wf_refuses_the_lead_byte_alone : (Instr.prefixCB 0x37).wf = false := by decide
theorem test_wf_takes_its_cb_instruction : Instr.swapA.wf = true := by decide

/-! ## Decoding: every constructor's word, from spec/opcode_table.json; immediates 0x34, or 0x34 0x12 -/

/-- Each list of bytes decodes to its instruction, with nothing over. -/
def decodesTo (l : List (List Byte × Instr)) : Bool := l.all fun p => decide (decode p.1 = .ok (p.2, []))

theorem test_decode_row_0 : decodesTo
    [([0b00000000], .nop), ([0b00000001, 0x34, 0x12], .ldBCd16 0x1234), ([0b00000010], .ldAtBCA),
     ([0b00000011], .incBC), ([0b00000100], .incB), ([0b00000101], .decB), ([0b00000110, 0x34], .ldBd8 0x34),
     ([0b00000111], .rlca), ([0b00001000, 0x34, 0x12], .ldAtA16SP 0x1234), ([0b00001001], .addHLBC),
     ([0b00001010], .ldAAtBC), ([0b00001011], .decBC), ([0b00001100], .incC), ([0b00001101], .decC),
     ([0b00001110, 0x34], .ldCd8 0x34), ([0b00001111], .rrca)] = true := by decide

theorem test_decode_row_1 : decodesTo
    [([0b00010000], .stop), ([0b00010001, 0x34, 0x12], .ldDEd16 0x1234), ([0b00010010], .ldAtDEA),
     ([0b00010011], .incDE), ([0b00010100], .incD), ([0b00010101], .decD), ([0b00010110, 0x34], .ldDd8 0x34),
     ([0b00010111], .rla), ([0b00011000, 0x34], .jre8 0x34), ([0b00011001], .addHLDE),
     ([0b00011010], .ldAAtDE), ([0b00011011], .decDE), ([0b00011100], .incE), ([0b00011101], .decE),
     ([0b00011110, 0x34], .ldEd8 0x34), ([0b00011111], .rra)] = true := by decide

theorem test_decode_row_2 : decodesTo
    [([0b00100000, 0x34], .jrNZe8 0x34), ([0b00100001, 0x34, 0x12], .ldHLd16 0x1234),
     ([0b00100010], .ldAtHLIncA), ([0b00100011], .incHL), ([0b00100100], .incH), ([0b00100101], .decH),
     ([0b00100110, 0x34], .ldHd8 0x34), ([0b00100111], .daa), ([0b00101000, 0x34], .jrZe8 0x34),
     ([0b00101001], .addHLHL), ([0b00101010], .ldAAtHLInc), ([0b00101011], .decHL), ([0b00101100], .incL),
     ([0b00101101], .decL), ([0b00101110, 0x34], .ldLd8 0x34), ([0b00101111], .cpl)] = true := by decide

theorem test_decode_row_3 : decodesTo
    [([0b00110000, 0x34], .jrNCe8 0x34), ([0b00110001, 0x34, 0x12], .ldSPd16 0x1234),
     ([0b00110010], .ldAtHLDecA), ([0b00110011], .incSP), ([0b00110100], .incAtHL), ([0b00110101], .decAtHL),
     ([0b00110110, 0x34], .ldAtHLd8 0x34), ([0b00110111], .scf), ([0b00111000, 0x34], .jrCe8 0x34),
     ([0b00111001], .addHLSP), ([0b00111010], .ldAAtHLDec), ([0b00111011], .decSP), ([0b00111100], .incA),
     ([0b00111101], .decA), ([0b00111110, 0x34], .ldAd8 0x34), ([0b00111111], .ccf)] = true := by decide

theorem test_decode_row_4 : decodesTo
    [([0b01000000], .ldBB), ([0b01000001], .ldBC), ([0b01000010], .ldBD), ([0b01000011], .ldBE),
     ([0b01000100], .ldBH), ([0b01000101], .ldBL), ([0b01000110], .ldBAtHL), ([0b01000111], .ldBA),
     ([0b01001000], .ldCB), ([0b01001001], .ldCC), ([0b01001010], .ldCD), ([0b01001011], .ldCE),
     ([0b01001100], .ldCH), ([0b01001101], .ldCL), ([0b01001110], .ldCAtHL), ([0b01001111], .ldCA)] = true := by decide

theorem test_decode_row_5 : decodesTo
    [([0b01010000], .ldDB), ([0b01010001], .ldDC), ([0b01010010], .ldDD), ([0b01010011], .ldDE),
     ([0b01010100], .ldDH), ([0b01010101], .ldDL), ([0b01010110], .ldDAtHL), ([0b01010111], .ldDA),
     ([0b01011000], .ldEB), ([0b01011001], .ldEC), ([0b01011010], .ldED), ([0b01011011], .ldEE),
     ([0b01011100], .ldEH), ([0b01011101], .ldEL), ([0b01011110], .ldEAtHL), ([0b01011111], .ldEA)] = true := by decide

theorem test_decode_row_6 : decodesTo
    [([0b01100000], .ldHB), ([0b01100001], .ldHC), ([0b01100010], .ldHD), ([0b01100011], .ldHE),
     ([0b01100100], .ldHH), ([0b01100101], .ldHL), ([0b01100110], .ldHAtHL), ([0b01100111], .ldHA),
     ([0b01101000], .ldLB), ([0b01101001], .ldLC), ([0b01101010], .ldLD), ([0b01101011], .ldLE),
     ([0b01101100], .ldLH), ([0b01101101], .ldLL), ([0b01101110], .ldLAtHL), ([0b01101111], .ldLA)] = true := by decide

theorem test_decode_row_7 : decodesTo
    [([0b01110000], .ldAtHLB), ([0b01110001], .ldAtHLC), ([0b01110010], .ldAtHLD), ([0b01110011], .ldAtHLE),
     ([0b01110100], .ldAtHLH), ([0b01110101], .ldAtHLL), ([0b01110110], .halt), ([0b01110111], .ldAtHLA),
     ([0b01111000], .ldAB), ([0b01111001], .ldAC), ([0b01111010], .ldAD), ([0b01111011], .ldAE),
     ([0b01111100], .ldAH), ([0b01111101], .ldAL), ([0b01111110], .ldAAtHL), ([0b01111111], .ldAA)] = true := by decide

theorem test_decode_row_8 : decodesTo
    [([0b10000000], .addAB), ([0b10000001], .addAC), ([0b10000010], .addAD), ([0b10000011], .addAE),
     ([0b10000100], .addAH), ([0b10000101], .addAL), ([0b10000110], .addAAtHL), ([0b10000111], .addAA),
     ([0b10001000], .adcAB), ([0b10001001], .adcAC), ([0b10001010], .adcAD), ([0b10001011], .adcAE),
     ([0b10001100], .adcAH), ([0b10001101], .adcAL), ([0b10001110], .adcAAtHL), ([0b10001111], .adcAA)] = true := by decide

theorem test_decode_row_9 : decodesTo
    [([0b10010000], .subB), ([0b10010001], .subC), ([0b10010010], .subD), ([0b10010011], .subE),
     ([0b10010100], .subH), ([0b10010101], .subL), ([0b10010110], .subAtHL), ([0b10010111], .subA),
     ([0b10011000], .sbcAB), ([0b10011001], .sbcAC), ([0b10011010], .sbcAD), ([0b10011011], .sbcAE),
     ([0b10011100], .sbcAH), ([0b10011101], .sbcAL), ([0b10011110], .sbcAAtHL), ([0b10011111], .sbcAA)] = true := by decide

theorem test_decode_row_A : decodesTo
    [([0b10100000], .andB), ([0b10100001], .andC), ([0b10100010], .andD), ([0b10100011], .andE),
     ([0b10100100], .andH), ([0b10100101], .andL), ([0b10100110], .andAtHL), ([0b10100111], .andA),
     ([0b10101000], .xorB), ([0b10101001], .xorC), ([0b10101010], .xorD), ([0b10101011], .xorE),
     ([0b10101100], .xorH), ([0b10101101], .xorL), ([0b10101110], .xorAtHL), ([0b10101111], .xorA)] = true := by decide

theorem test_decode_row_B : decodesTo
    [([0b10110000], .orB), ([0b10110001], .orC), ([0b10110010], .orD), ([0b10110011], .orE),
     ([0b10110100], .orH), ([0b10110101], .orL), ([0b10110110], .orAtHL), ([0b10110111], .orA),
     ([0b10111000], .cpB), ([0b10111001], .cpC), ([0b10111010], .cpD), ([0b10111011], .cpE),
     ([0b10111100], .cpH), ([0b10111101], .cpL), ([0b10111110], .cpAtHL), ([0b10111111], .cpA)] = true := by decide

theorem test_decode_row_C : decodesTo
    [([0b11000000], .retNZ), ([0b11000001], .popBC), ([0b11000010, 0x34, 0x12], .jpNZa16 0x1234),
     ([0b11000011, 0x34, 0x12], .jpa16 0x1234), ([0b11000100, 0x34, 0x12], .callNZa16 0x1234),
     ([0b11000101], .pushBC), ([0b11000110, 0x34], .addAd8 0x34), ([0b11000111], .rst00H),
     ([0b11001000], .retZ), ([0b11001001], .ret), ([0b11001010, 0x34, 0x12], .jpZa16 0x1234),
     ([0b11001011, 0b00000000], .rlcB), ([0b11001100, 0x34, 0x12], .callZa16 0x1234),
     ([0b11001101, 0x34, 0x12], .calla16 0x1234), ([0b11001110, 0x34], .adcAd8 0x34), ([0b11001111], .rst08H)] = true := by decide

theorem test_decode_row_D : decodesTo
    [([0b11010000], .retNC), ([0b11010001], .popDE), ([0b11010010, 0x34, 0x12], .jpNCa16 0x1234),
     ([0b11010011], .illegalD3), ([0b11010100, 0x34, 0x12], .callNCa16 0x1234), ([0b11010101], .pushDE),
     ([0b11010110, 0x34], .subd8 0x34), ([0b11010111], .rst10H), ([0b11011000], .retC), ([0b11011001], .reti),
     ([0b11011010, 0x34, 0x12], .jpCa16 0x1234), ([0b11011011], .illegalDB),
     ([0b11011100, 0x34, 0x12], .callCa16 0x1234), ([0b11011101], .illegalDD),
     ([0b11011110, 0x34], .sbcAd8 0x34), ([0b11011111], .rst18H)] = true := by decide

theorem test_decode_row_E : decodesTo
    [([0b11100000, 0x34], .ldhAtA8A 0x34), ([0b11100001], .popHL), ([0b11100010], .ldAtCA),
     ([0b11100011], .illegalE3), ([0b11100100], .illegalE4), ([0b11100101], .pushHL),
     ([0b11100110, 0x34], .andd8 0x34), ([0b11100111], .rst20H), ([0b11101000, 0x34], .addSPe8 0x34),
     ([0b11101001], .jpHL), ([0b11101010, 0x34, 0x12], .ldAtA16A 0x1234), ([0b11101011], .illegalEB),
     ([0b11101100], .illegalEC), ([0b11101101], .illegalED), ([0b11101110, 0x34], .xord8 0x34),
     ([0b11101111], .rst28H)] = true := by decide

theorem test_decode_row_F : decodesTo
    [([0b11110000, 0x34], .ldhAAtA8 0x34), ([0b11110001], .popAF), ([0b11110010], .ldAAtC),
     ([0b11110011], .di), ([0b11110100], .illegalF4), ([0b11110101], .pushAF),
     ([0b11110110, 0x34], .ord8 0x34), ([0b11110111], .rst30H), ([0b11111000, 0x34], .ldHLSPe8 0x34),
     ([0b11111001], .ldSPHL), ([0b11111010, 0x34, 0x12], .ldAAtA16 0x1234), ([0b11111011], .ei),
     ([0b11111100], .illegalFC), ([0b11111101], .illegalFD), ([0b11111110, 0x34], .cpd8 0x34),
     ([0b11111111], .rst38H)] = true := by decide

theorem test_decode_cb_row_0 : decodesTo
    [([0b11001011, 0b00000000], .rlcB), ([0b11001011, 0b00000001], .rlcC), ([0b11001011, 0b00000010], .rlcD),
     ([0b11001011, 0b00000011], .rlcE), ([0b11001011, 0b00000100], .rlcH), ([0b11001011, 0b00000101], .rlcL),
     ([0b11001011, 0b00000110], .rlcAtHL), ([0b11001011, 0b00000111], .rlcA),
     ([0b11001011, 0b00001000], .rrcB), ([0b11001011, 0b00001001], .rrcC), ([0b11001011, 0b00001010], .rrcD),
     ([0b11001011, 0b00001011], .rrcE), ([0b11001011, 0b00001100], .rrcH), ([0b11001011, 0b00001101], .rrcL),
     ([0b11001011, 0b00001110], .rrcAtHL), ([0b11001011, 0b00001111], .rrcA)] = true := by decide

theorem test_decode_cb_row_1 : decodesTo
    [([0b11001011, 0b00010000], .rlB), ([0b11001011, 0b00010001], .rlC), ([0b11001011, 0b00010010], .rlD),
     ([0b11001011, 0b00010011], .rlE), ([0b11001011, 0b00010100], .rlH), ([0b11001011, 0b00010101], .rlL),
     ([0b11001011, 0b00010110], .rlAtHL), ([0b11001011, 0b00010111], .rlA), ([0b11001011, 0b00011000], .rrB),
     ([0b11001011, 0b00011001], .rrC), ([0b11001011, 0b00011010], .rrD), ([0b11001011, 0b00011011], .rrE),
     ([0b11001011, 0b00011100], .rrH), ([0b11001011, 0b00011101], .rrL), ([0b11001011, 0b00011110], .rrAtHL),
     ([0b11001011, 0b00011111], .rrA)] = true := by decide

theorem test_decode_cb_row_2 : decodesTo
    [([0b11001011, 0b00100000], .slaB), ([0b11001011, 0b00100001], .slaC), ([0b11001011, 0b00100010], .slaD),
     ([0b11001011, 0b00100011], .slaE), ([0b11001011, 0b00100100], .slaH), ([0b11001011, 0b00100101], .slaL),
     ([0b11001011, 0b00100110], .slaAtHL), ([0b11001011, 0b00100111], .slaA),
     ([0b11001011, 0b00101000], .sraB), ([0b11001011, 0b00101001], .sraC), ([0b11001011, 0b00101010], .sraD),
     ([0b11001011, 0b00101011], .sraE), ([0b11001011, 0b00101100], .sraH), ([0b11001011, 0b00101101], .sraL),
     ([0b11001011, 0b00101110], .sraAtHL), ([0b11001011, 0b00101111], .sraA)] = true := by decide

theorem test_decode_cb_row_3 : decodesTo
    [([0b11001011, 0b00110000], .swapB), ([0b11001011, 0b00110001], .swapC),
     ([0b11001011, 0b00110010], .swapD), ([0b11001011, 0b00110011], .swapE),
     ([0b11001011, 0b00110100], .swapH), ([0b11001011, 0b00110101], .swapL),
     ([0b11001011, 0b00110110], .swapAtHL), ([0b11001011, 0b00110111], .swapA),
     ([0b11001011, 0b00111000], .srlB), ([0b11001011, 0b00111001], .srlC), ([0b11001011, 0b00111010], .srlD),
     ([0b11001011, 0b00111011], .srlE), ([0b11001011, 0b00111100], .srlH), ([0b11001011, 0b00111101], .srlL),
     ([0b11001011, 0b00111110], .srlAtHL), ([0b11001011, 0b00111111], .srlA)] = true := by decide

theorem test_decode_cb_row_4 : decodesTo
    [([0b11001011, 0b01000000], .bit0B), ([0b11001011, 0b01000001], .bit0C),
     ([0b11001011, 0b01000010], .bit0D), ([0b11001011, 0b01000011], .bit0E),
     ([0b11001011, 0b01000100], .bit0H), ([0b11001011, 0b01000101], .bit0L),
     ([0b11001011, 0b01000110], .bit0AtHL), ([0b11001011, 0b01000111], .bit0A),
     ([0b11001011, 0b01001000], .bit1B), ([0b11001011, 0b01001001], .bit1C),
     ([0b11001011, 0b01001010], .bit1D), ([0b11001011, 0b01001011], .bit1E),
     ([0b11001011, 0b01001100], .bit1H), ([0b11001011, 0b01001101], .bit1L),
     ([0b11001011, 0b01001110], .bit1AtHL), ([0b11001011, 0b01001111], .bit1A)] = true := by decide

theorem test_decode_cb_row_5 : decodesTo
    [([0b11001011, 0b01010000], .bit2B), ([0b11001011, 0b01010001], .bit2C),
     ([0b11001011, 0b01010010], .bit2D), ([0b11001011, 0b01010011], .bit2E),
     ([0b11001011, 0b01010100], .bit2H), ([0b11001011, 0b01010101], .bit2L),
     ([0b11001011, 0b01010110], .bit2AtHL), ([0b11001011, 0b01010111], .bit2A),
     ([0b11001011, 0b01011000], .bit3B), ([0b11001011, 0b01011001], .bit3C),
     ([0b11001011, 0b01011010], .bit3D), ([0b11001011, 0b01011011], .bit3E),
     ([0b11001011, 0b01011100], .bit3H), ([0b11001011, 0b01011101], .bit3L),
     ([0b11001011, 0b01011110], .bit3AtHL), ([0b11001011, 0b01011111], .bit3A)] = true := by decide

theorem test_decode_cb_row_6 : decodesTo
    [([0b11001011, 0b01100000], .bit4B), ([0b11001011, 0b01100001], .bit4C),
     ([0b11001011, 0b01100010], .bit4D), ([0b11001011, 0b01100011], .bit4E),
     ([0b11001011, 0b01100100], .bit4H), ([0b11001011, 0b01100101], .bit4L),
     ([0b11001011, 0b01100110], .bit4AtHL), ([0b11001011, 0b01100111], .bit4A),
     ([0b11001011, 0b01101000], .bit5B), ([0b11001011, 0b01101001], .bit5C),
     ([0b11001011, 0b01101010], .bit5D), ([0b11001011, 0b01101011], .bit5E),
     ([0b11001011, 0b01101100], .bit5H), ([0b11001011, 0b01101101], .bit5L),
     ([0b11001011, 0b01101110], .bit5AtHL), ([0b11001011, 0b01101111], .bit5A)] = true := by decide

theorem test_decode_cb_row_7 : decodesTo
    [([0b11001011, 0b01110000], .bit6B), ([0b11001011, 0b01110001], .bit6C),
     ([0b11001011, 0b01110010], .bit6D), ([0b11001011, 0b01110011], .bit6E),
     ([0b11001011, 0b01110100], .bit6H), ([0b11001011, 0b01110101], .bit6L),
     ([0b11001011, 0b01110110], .bit6AtHL), ([0b11001011, 0b01110111], .bit6A),
     ([0b11001011, 0b01111000], .bit7B), ([0b11001011, 0b01111001], .bit7C),
     ([0b11001011, 0b01111010], .bit7D), ([0b11001011, 0b01111011], .bit7E),
     ([0b11001011, 0b01111100], .bit7H), ([0b11001011, 0b01111101], .bit7L),
     ([0b11001011, 0b01111110], .bit7AtHL), ([0b11001011, 0b01111111], .bit7A)] = true := by decide

theorem test_decode_cb_row_8 : decodesTo
    [([0b11001011, 0b10000000], .res0B), ([0b11001011, 0b10000001], .res0C),
     ([0b11001011, 0b10000010], .res0D), ([0b11001011, 0b10000011], .res0E),
     ([0b11001011, 0b10000100], .res0H), ([0b11001011, 0b10000101], .res0L),
     ([0b11001011, 0b10000110], .res0AtHL), ([0b11001011, 0b10000111], .res0A),
     ([0b11001011, 0b10001000], .res1B), ([0b11001011, 0b10001001], .res1C),
     ([0b11001011, 0b10001010], .res1D), ([0b11001011, 0b10001011], .res1E),
     ([0b11001011, 0b10001100], .res1H), ([0b11001011, 0b10001101], .res1L),
     ([0b11001011, 0b10001110], .res1AtHL), ([0b11001011, 0b10001111], .res1A)] = true := by decide

theorem test_decode_cb_row_9 : decodesTo
    [([0b11001011, 0b10010000], .res2B), ([0b11001011, 0b10010001], .res2C),
     ([0b11001011, 0b10010010], .res2D), ([0b11001011, 0b10010011], .res2E),
     ([0b11001011, 0b10010100], .res2H), ([0b11001011, 0b10010101], .res2L),
     ([0b11001011, 0b10010110], .res2AtHL), ([0b11001011, 0b10010111], .res2A),
     ([0b11001011, 0b10011000], .res3B), ([0b11001011, 0b10011001], .res3C),
     ([0b11001011, 0b10011010], .res3D), ([0b11001011, 0b10011011], .res3E),
     ([0b11001011, 0b10011100], .res3H), ([0b11001011, 0b10011101], .res3L),
     ([0b11001011, 0b10011110], .res3AtHL), ([0b11001011, 0b10011111], .res3A)] = true := by decide

theorem test_decode_cb_row_A : decodesTo
    [([0b11001011, 0b10100000], .res4B), ([0b11001011, 0b10100001], .res4C),
     ([0b11001011, 0b10100010], .res4D), ([0b11001011, 0b10100011], .res4E),
     ([0b11001011, 0b10100100], .res4H), ([0b11001011, 0b10100101], .res4L),
     ([0b11001011, 0b10100110], .res4AtHL), ([0b11001011, 0b10100111], .res4A),
     ([0b11001011, 0b10101000], .res5B), ([0b11001011, 0b10101001], .res5C),
     ([0b11001011, 0b10101010], .res5D), ([0b11001011, 0b10101011], .res5E),
     ([0b11001011, 0b10101100], .res5H), ([0b11001011, 0b10101101], .res5L),
     ([0b11001011, 0b10101110], .res5AtHL), ([0b11001011, 0b10101111], .res5A)] = true := by decide

theorem test_decode_cb_row_B : decodesTo
    [([0b11001011, 0b10110000], .res6B), ([0b11001011, 0b10110001], .res6C),
     ([0b11001011, 0b10110010], .res6D), ([0b11001011, 0b10110011], .res6E),
     ([0b11001011, 0b10110100], .res6H), ([0b11001011, 0b10110101], .res6L),
     ([0b11001011, 0b10110110], .res6AtHL), ([0b11001011, 0b10110111], .res6A),
     ([0b11001011, 0b10111000], .res7B), ([0b11001011, 0b10111001], .res7C),
     ([0b11001011, 0b10111010], .res7D), ([0b11001011, 0b10111011], .res7E),
     ([0b11001011, 0b10111100], .res7H), ([0b11001011, 0b10111101], .res7L),
     ([0b11001011, 0b10111110], .res7AtHL), ([0b11001011, 0b10111111], .res7A)] = true := by decide

theorem test_decode_cb_row_C : decodesTo
    [([0b11001011, 0b11000000], .set0B), ([0b11001011, 0b11000001], .set0C),
     ([0b11001011, 0b11000010], .set0D), ([0b11001011, 0b11000011], .set0E),
     ([0b11001011, 0b11000100], .set0H), ([0b11001011, 0b11000101], .set0L),
     ([0b11001011, 0b11000110], .set0AtHL), ([0b11001011, 0b11000111], .set0A),
     ([0b11001011, 0b11001000], .set1B), ([0b11001011, 0b11001001], .set1C),
     ([0b11001011, 0b11001010], .set1D), ([0b11001011, 0b11001011], .set1E),
     ([0b11001011, 0b11001100], .set1H), ([0b11001011, 0b11001101], .set1L),
     ([0b11001011, 0b11001110], .set1AtHL), ([0b11001011, 0b11001111], .set1A)] = true := by decide

theorem test_decode_cb_row_D : decodesTo
    [([0b11001011, 0b11010000], .set2B), ([0b11001011, 0b11010001], .set2C),
     ([0b11001011, 0b11010010], .set2D), ([0b11001011, 0b11010011], .set2E),
     ([0b11001011, 0b11010100], .set2H), ([0b11001011, 0b11010101], .set2L),
     ([0b11001011, 0b11010110], .set2AtHL), ([0b11001011, 0b11010111], .set2A),
     ([0b11001011, 0b11011000], .set3B), ([0b11001011, 0b11011001], .set3C),
     ([0b11001011, 0b11011010], .set3D), ([0b11001011, 0b11011011], .set3E),
     ([0b11001011, 0b11011100], .set3H), ([0b11001011, 0b11011101], .set3L),
     ([0b11001011, 0b11011110], .set3AtHL), ([0b11001011, 0b11011111], .set3A)] = true := by decide

theorem test_decode_cb_row_E : decodesTo
    [([0b11001011, 0b11100000], .set4B), ([0b11001011, 0b11100001], .set4C),
     ([0b11001011, 0b11100010], .set4D), ([0b11001011, 0b11100011], .set4E),
     ([0b11001011, 0b11100100], .set4H), ([0b11001011, 0b11100101], .set4L),
     ([0b11001011, 0b11100110], .set4AtHL), ([0b11001011, 0b11100111], .set4A),
     ([0b11001011, 0b11101000], .set5B), ([0b11001011, 0b11101001], .set5C),
     ([0b11001011, 0b11101010], .set5D), ([0b11001011, 0b11101011], .set5E),
     ([0b11001011, 0b11101100], .set5H), ([0b11001011, 0b11101101], .set5L),
     ([0b11001011, 0b11101110], .set5AtHL), ([0b11001011, 0b11101111], .set5A)] = true := by decide

theorem test_decode_cb_row_F : decodesTo
    [([0b11001011, 0b11110000], .set6B), ([0b11001011, 0b11110001], .set6C),
     ([0b11001011, 0b11110010], .set6D), ([0b11001011, 0b11110011], .set6E),
     ([0b11001011, 0b11110100], .set6H), ([0b11001011, 0b11110101], .set6L),
     ([0b11001011, 0b11110110], .set6AtHL), ([0b11001011, 0b11110111], .set6A),
     ([0b11001011, 0b11111000], .set7B), ([0b11001011, 0b11111001], .set7C),
     ([0b11001011, 0b11111010], .set7D), ([0b11001011, 0b11111011], .set7E),
     ([0b11001011, 0b11111100], .set7H), ([0b11001011, 0b11111101], .set7L),
     ([0b11001011, 0b11111110], .set7AtHL), ([0b11001011, 0b11111111], .set7A)] = true := by decide

theorem test_decode_refuses_cut_words :
    decode [] = .error .noOpcode ∧ decode [0x3E] = .error (.missingBytes 0x3E) ∧
      decode [0xC3, 0x34] = .error (.missingBytes 0xC3) ∧ decode [0xCB] = .error (.missingBytes 0xCB) := by decide

/-! ## One step, from the vectors of 95_test_vectors.md -/

/-- A state with these registers, booleans, `STOP_BYTES` and bus bytes, the conventions of 95_test_vectors.md otherwise. -/
def start (r : Regs) (i : IntState) (b : StopBytes) (bytes : List (Word × Byte)) : State :=
  State.pokeAll
    { regs := r, int := i, tick := 0, fault := none, scratch := Scratch.start, bus := Bus.freshRam
      params := { stopBytes := b }, inputs := [] } bytes

/-- The booleans all false. -/
def running : IntState := { ime := false, eiPending := false, halted := false, stopped := false }

/-- One step ends with these registers, booleans and bytes, this cost, and no fault. -/
def ends (s : State) (r : Regs) (i : IntState) (bytes : List (Word × Byte)) (cost : Nat) : Bool :=
  match step s with
  | .next t =>
    t.regs == r && t.int == i && bytes.all (fun p => t.byteAt p.1 == p.2) && t.scratch.cost == cost &&
      t.tick == BitVec.ofNat 16 cost && t.fault.isNone
  | _ => false

theorem test_ldAB_L8_1 :
    ends (start ⟨0x0000, 0x1200, 0x0000, 0x0000, 0xFFFE, 0x0100⟩ running .two [(0x0100, 0x78)])
      ⟨0x1200, 0x1200, 0x0000, 0x0000, 0xFFFE, 0x0101⟩ running [] 4 = true := by decide

theorem test_ldHAtHL_L8_2 :
    ends (start ⟨0x0000, 0x0000, 0x0000, 0xC000, 0xFFFE, 0x0100⟩ running .two [(0x0100, 0x66), (0xC000, 0x55)])
      ⟨0x0000, 0x0000, 0x0000, 0x5500, 0xFFFE, 0x0101⟩ running [] 8 = true := by decide

theorem test_ldAtHLd8_L8_3 :
    ends (start ⟨0x0000, 0x0000, 0x0000, 0xC010, 0xFFFE, 0x0100⟩ running .two [(0x0100, 0x36), (0x0101, 0xAA)])
      ⟨0x0000, 0x0000, 0x0000, 0xC010, 0xFFFE, 0x0102⟩ running [(0xC010, 0xAA)] 12 = true := by decide

theorem test_ldAAtHLInc_wraps_L8_4 :
    ends (start ⟨0x0000, 0x0000, 0x0000, 0xFFFF, 0xFFFE, 0x0100⟩ running .two [(0x0100, 0x2A), (0xFFFF, 0x3C)])
      ⟨0x3C00, 0x0000, 0x0000, 0x0000, 0xFFFE, 0x0101⟩ running [] 8 = true := by decide

theorem test_ldAtHLDecA_wraps_L8_5 :
    ends (start ⟨0x0700, 0x0000, 0x0000, 0x0000, 0xFFFE, 0x0100⟩ running .two [(0x0100, 0x32)])
      ⟨0x0700, 0x0000, 0x0000, 0xFFFF, 0xFFFE, 0x0101⟩ running [(0x0000, 0x07)] 8 = true := by decide

theorem test_ldhAAtA8_L8_6 :
    ends (start ⟨0x0000, 0x0000, 0x0000, 0x0000, 0xFFFE, 0x0100⟩ running .two [(0x0100, 0xF0), (0x0101, 0x80), (0xFF80, 0x11)])
      ⟨0x1100, 0x0000, 0x0000, 0x0000, 0xFFFE, 0x0102⟩ running [] 12 = true := by decide

theorem test_ldAtCA_L8_7 :
    ends (start ⟨0x0500, 0x0081, 0x0000, 0x0000, 0xFFFE, 0x0100⟩ running .two [(0x0100, 0xE2)])
      ⟨0x0500, 0x0081, 0x0000, 0x0000, 0xFFFE, 0x0101⟩ running [(0xFF81, 0x05)] 8 = true := by decide

theorem test_ldAAtA16_L8_8 :
    ends (start ⟨0x0000, 0x0000, 0x0000, 0x0000, 0xFFFE, 0x0100⟩ running .two [(0x0100, 0xFA), (0x0101, 0x00), (0x0102, 0xC0), (0xC000, 0x42)])
      ⟨0x4200, 0x0000, 0x0000, 0x0000, 0xFFFE, 0x0103⟩ running [] 16 = true := by decide

theorem test_ldAd8_immediate_wraps_L8_9 :
    ends (start ⟨0x0000, 0x0000, 0x0000, 0x0000, 0xFFFE, 0xFFFF⟩ running .two [(0xFFFF, 0x3E), (0x0000, 0x99)])
      ⟨0x9900, 0x0000, 0x0000, 0x0000, 0xFFFE, 0x0001⟩ running [] 8 = true := by decide

theorem test_ldAtA16A_writes_IE_L8_10 :
    ends (start ⟨0x1F00, 0x0000, 0x0000, 0x0000, 0xFFFE, 0x0100⟩ running .two [(0x0100, 0xEA), (0x0101, 0xFF), (0x0102, 0xFF)])
      ⟨0x1F00, 0x0000, 0x0000, 0x0000, 0xFFFE, 0x0103⟩ running [(0xFFFF, 0x1F)] 16 = true := by decide

theorem test_ldHLd16_L16_1 :
    ends (start ⟨0x0000, 0x0000, 0x0000, 0x0000, 0xFFFE, 0x0100⟩ running .two [(0x0100, 0x21), (0x0101, 0x34), (0x0102, 0x12)])
      ⟨0x0000, 0x0000, 0x0000, 0x1234, 0xFFFE, 0x0103⟩ running [] 12 = true := by decide

theorem test_ldAtA16SP_L16_2 :
    ends (start ⟨0x0000, 0x0000, 0x0000, 0x0000, 0xFFF8, 0x0100⟩ running .two [(0x0100, 0x08), (0x0101, 0x00), (0x0102, 0xC1)])
      ⟨0x0000, 0x0000, 0x0000, 0x0000, 0xFFF8, 0x0103⟩ running [(0xC100, 0xF8), (0xC101, 0xFF)] 20 = true := by decide

theorem test_ldAtA16SP_wraps_L16_3 :
    ends (start ⟨0x0000, 0x0000, 0x0000, 0x0000, 0x1234, 0x0100⟩ running .two [(0x0100, 0x08), (0x0101, 0xFF), (0x0102, 0xFF)])
      ⟨0x0000, 0x0000, 0x0000, 0x0000, 0x1234, 0x0103⟩ running [(0xFFFF, 0x34), (0x0000, 0x12)] 20 = true := by decide

theorem test_pushBC_L16_4 :
    ends (start ⟨0x0000, 0x1234, 0x0000, 0x0000, 0xFFFE, 0x0100⟩ running .two [(0x0100, 0xC5)])
      ⟨0x0000, 0x1234, 0x0000, 0x0000, 0xFFFC, 0x0101⟩ running [(0xFFFD, 0x12), (0xFFFC, 0x34)] 16 = true := by decide

theorem test_pushBC_wraps_L16_5 :
    ends (start ⟨0x0000, 0xABCD, 0x0000, 0x0000, 0x0001, 0x0100⟩ running .two [(0x0100, 0xC5)])
      ⟨0x0000, 0xABCD, 0x0000, 0x0000, 0xFFFF, 0x0101⟩ running [(0x0000, 0xAB), (0xFFFF, 0xCD)] 16 = true := by decide

theorem test_popDE_L16_6 :
    ends (start ⟨0x0000, 0x0000, 0x0000, 0x0000, 0xFFFC, 0x0100⟩ running .two [(0x0100, 0xD1), (0xFFFC, 0x34), (0xFFFD, 0x12)])
      ⟨0x0000, 0x0000, 0x1234, 0x0000, 0xFFFE, 0x0101⟩ running [] 12 = true := by decide

theorem test_popAF_masks_F_L16_7 :
    ends (start ⟨0x0000, 0x0000, 0x0000, 0x0000, 0xFFFC, 0x0100⟩ running .two [(0x0100, 0xF1), (0xFFFC, 0xFF), (0xFFFD, 0x12)])
      ⟨0x12F0, 0x0000, 0x0000, 0x0000, 0xFFFE, 0x0101⟩ running [] 12 = true := by decide

theorem test_ldHLSPe8_L16_8 :
    ends (start ⟨0x0000, 0x0000, 0x0000, 0x0000, 0x0001, 0x0100⟩ running .two [(0x0100, 0xF8), (0x0101, 0xFF)])
      ⟨0x0030, 0x0000, 0x0000, 0x0000, 0x0001, 0x0102⟩ running [] 12 = true := by decide

theorem test_ldSPHL_L16_10 :
    ends (start ⟨0x0000, 0x0000, 0x0000, 0xDFFF, 0xFFFE, 0x0100⟩ running .two [(0x0100, 0xF9)])
      ⟨0x0000, 0x0000, 0x0000, 0xDFFF, 0xDFFF, 0x0101⟩ running [] 8 = true := by decide

theorem test_addAA_A8_1 :
    ends (start ⟨0x8000, 0x0000, 0x0000, 0x0000, 0xFFFE, 0x0100⟩ running .two [(0x0100, 0x87)])
      ⟨0x0090, 0x0000, 0x0000, 0x0000, 0xFFFE, 0x0101⟩ running [] 4 = true := by decide

theorem test_addAd8_A8_2 :
    ends (start ⟨0x0F00, 0x0000, 0x0000, 0x0000, 0xFFFE, 0x0100⟩ running .two [(0x0100, 0xC6), (0x0101, 0x01)])
      ⟨0x1020, 0x0000, 0x0000, 0x0000, 0xFFFE, 0x0102⟩ running [] 8 = true := by decide

theorem test_adcAB_A8_3 :
    ends (start ⟨0xFF10, 0x0000, 0x0000, 0x0000, 0xFFFE, 0x0100⟩ running .two [(0x0100, 0x88)])
      ⟨0x00B0, 0x0000, 0x0000, 0x0000, 0xFFFE, 0x0101⟩ running [] 4 = true := by decide

theorem test_adcAd8_A8_4 :
    ends (start ⟨0x0E10, 0x0000, 0x0000, 0x0000, 0xFFFE, 0x0100⟩ running .two [(0x0100, 0xCE), (0x0101, 0x01)])
      ⟨0x1020, 0x0000, 0x0000, 0x0000, 0xFFFE, 0x0102⟩ running [] 8 = true := by decide

theorem test_subB_equal_A8_5 :
    ends (start ⟨0x3E00, 0x3E00, 0x0000, 0x0000, 0xFFFE, 0x0100⟩ running .two [(0x0100, 0x90)])
      ⟨0x00C0, 0x3E00, 0x0000, 0x0000, 0xFFFE, 0x0101⟩ running [] 4 = true := by decide

theorem test_subB_borrow_A8_6 :
    ends (start ⟨0x1000, 0x0100, 0x0000, 0x0000, 0xFFFE, 0x0100⟩ running .two [(0x0100, 0x90)])
      ⟨0x0F60, 0x0100, 0x0000, 0x0000, 0xFFFE, 0x0101⟩ running [] 4 = true := by decide

theorem test_subAtHL_A8_7 :
    ends (start ⟨0x0000, 0x0000, 0x0000, 0xC000, 0xFFFE, 0x0100⟩ running .two [(0x0100, 0x96), (0xC000, 0x01)])
      ⟨0xFF70, 0x0000, 0x0000, 0xC000, 0xFFFE, 0x0101⟩ running [] 8 = true := by decide

theorem test_sbcAB_A8_8 :
    ends (start ⟨0x0010, 0xFF00, 0x0000, 0x0000, 0xFFFE, 0x0100⟩ running .two [(0x0100, 0x98)])
      ⟨0x00F0, 0xFF00, 0x0000, 0x0000, 0xFFFE, 0x0101⟩ running [] 4 = true := by decide

theorem test_sbcAd8_A8_9 :
    ends (start ⟨0x3B10, 0x0000, 0x0000, 0x0000, 0xFFFE, 0x0100⟩ running .two [(0x0100, 0xDE), (0x0101, 0x2A)])
      ⟨0x1040, 0x0000, 0x0000, 0x0000, 0xFFFE, 0x0102⟩ running [] 8 = true := by decide

theorem test_sbcAA_A8_10 :
    ends (start ⟨0x5510, 0x0000, 0x0000, 0x0000, 0xFFFE, 0x0100⟩ running .two [(0x0100, 0x9F)])
      ⟨0xFF70, 0x0000, 0x0000, 0x0000, 0xFFFE, 0x0101⟩ running [] 4 = true := by decide

theorem test_andd8_A8_11 :
    ends (start ⟨0x5A00, 0x0000, 0x0000, 0x0000, 0xFFFE, 0x0100⟩ running .two [(0x0100, 0xE6), (0x0101, 0xA5)])
      ⟨0x00A0, 0x0000, 0x0000, 0x0000, 0xFFFE, 0x0102⟩ running [] 8 = true := by decide

theorem test_xorA_A8_12 :
    ends (start ⟨0x7770, 0x0000, 0x0000, 0x0000, 0xFFFE, 0x0100⟩ running .two [(0x0100, 0xAF)])
      ⟨0x0080, 0x0000, 0x0000, 0x0000, 0xFFFE, 0x0101⟩ running [] 4 = true := by decide

theorem test_orAtHL_A8_13 :
    ends (start ⟨0x0000, 0x0000, 0x0000, 0xC000, 0xFFFE, 0x0100⟩ running .two [(0x0100, 0xB6)])
      ⟨0x0080, 0x0000, 0x0000, 0xC000, 0xFFFE, 0x0101⟩ running [] 8 = true := by decide

theorem test_cpd8_A8_14 :
    ends (start ⟨0x3C00, 0x0000, 0x0000, 0x0000, 0xFFFE, 0x0100⟩ running .two [(0x0100, 0xFE), (0x0101, 0x3C)])
      ⟨0x3CC0, 0x0000, 0x0000, 0x0000, 0xFFFE, 0x0102⟩ running [] 8 = true := by decide

theorem test_cpB_A8_15 :
    ends (start ⟨0x3C00, 0x4000, 0x0000, 0x0000, 0xFFFE, 0x0100⟩ running .two [(0x0100, 0xB8)])
      ⟨0x3C50, 0x4000, 0x0000, 0x0000, 0xFFFE, 0x0101⟩ running [] 4 = true := by decide

theorem test_incA_A8_16 :
    ends (start ⟨0xFF10, 0x0000, 0x0000, 0x0000, 0xFFFE, 0x0100⟩ running .two [(0x0100, 0x3C)])
      ⟨0x00B0, 0x0000, 0x0000, 0x0000, 0xFFFE, 0x0101⟩ running [] 4 = true := by decide

theorem test_decA_A8_17 :
    ends (start ⟨0x0100, 0x0000, 0x0000, 0x0000, 0xFFFE, 0x0100⟩ running .two [(0x0100, 0x3D)])
      ⟨0x00C0, 0x0000, 0x0000, 0x0000, 0xFFFE, 0x0101⟩ running [] 4 = true := by decide

theorem test_decB_A8_18 :
    ends (start ⟨0x0000, 0x1000, 0x0000, 0x0000, 0xFFFE, 0x0100⟩ running .two [(0x0100, 0x05)])
      ⟨0x0060, 0x0F00, 0x0000, 0x0000, 0xFFFE, 0x0101⟩ running [] 4 = true := by decide

theorem test_incAtHL_A8_19 :
    ends (start ⟨0x0000, 0x0000, 0x0000, 0xC000, 0xFFFE, 0x0100⟩ running .two [(0x0100, 0x34), (0xC000, 0x0F)])
      ⟨0x0020, 0x0000, 0x0000, 0xC000, 0xFFFE, 0x0101⟩ running [(0xC000, 0x10)] 12 = true := by decide

theorem test_decAtHL_A8_20 :
    ends (start ⟨0x0010, 0x0000, 0x0000, 0xC000, 0xFFFE, 0x0100⟩ running .two [(0x0100, 0x35)])
      ⟨0x0070, 0x0000, 0x0000, 0xC000, 0xFFFE, 0x0101⟩ running [(0xC000, 0xFF)] 12 = true := by decide

theorem test_daa_A8_22 :
    ends (start ⟨0x9A00, 0x0000, 0x0000, 0x0000, 0xFFFE, 0x0100⟩ running .two [(0x0100, 0x27)])
      ⟨0x0090, 0x0000, 0x0000, 0x0000, 0xFFFE, 0x0101⟩ running [] 4 = true := by decide

theorem test_daa_A8_23 :
    ends (start ⟨0x0F60, 0x0000, 0x0000, 0x0000, 0xFFFE, 0x0100⟩ running .two [(0x0100, 0x27)])
      ⟨0x0940, 0x0000, 0x0000, 0x0000, 0xFFFE, 0x0101⟩ running [] 4 = true := by decide

theorem test_cpl_A8_25 :
    ends (start ⟨0x3500, 0x0000, 0x0000, 0x0000, 0xFFFE, 0x0100⟩ running .two [(0x0100, 0x2F)])
      ⟨0xCA60, 0x0000, 0x0000, 0x0000, 0xFFFE, 0x0101⟩ running [] 4 = true := by decide

theorem test_scf_A8_26 :
    ends (start ⟨0x00E0, 0x0000, 0x0000, 0x0000, 0xFFFE, 0x0100⟩ running .two [(0x0100, 0x37)])
      ⟨0x0090, 0x0000, 0x0000, 0x0000, 0xFFFE, 0x0101⟩ running [] 4 = true := by decide

theorem test_ccf_A8_27 :
    ends (start ⟨0x0070, 0x0000, 0x0000, 0x0000, 0xFFFE, 0x0100⟩ running .two [(0x0100, 0x3F)])
      ⟨0x0000, 0x0000, 0x0000, 0x0000, 0xFFFE, 0x0101⟩ running [] 4 = true := by decide

theorem test_addHLBC_A16_1 :
    ends (start ⟨0x0080, 0x0605, 0x0000, 0x8A23, 0xFFFE, 0x0100⟩ running .two [(0x0100, 0x09)])
      ⟨0x00A0, 0x0605, 0x0000, 0x9028, 0xFFFE, 0x0101⟩ running [] 8 = true := by decide

theorem test_addHLHL_A16_2 :
    ends (start ⟨0x0000, 0x0000, 0x0000, 0x8000, 0xFFFE, 0x0100⟩ running .two [(0x0100, 0x29)])
      ⟨0x0010, 0x0000, 0x0000, 0x0000, 0xFFFE, 0x0101⟩ running [] 8 = true := by decide

theorem test_addHLDE_A16_3 :
    ends (start ⟨0x0000, 0x0000, 0x0001, 0x0FFF, 0xFFFE, 0x0100⟩ running .two [(0x0100, 0x19)])
      ⟨0x0020, 0x0000, 0x0001, 0x1000, 0xFFFE, 0x0101⟩ running [] 8 = true := by decide

theorem test_incBC_A16_4 :
    ends (start ⟨0x0000, 0xFFFF, 0x0000, 0x0000, 0xFFFE, 0x0100⟩ running .two [(0x0100, 0x03)])
      ⟨0x0000, 0x0000, 0x0000, 0x0000, 0xFFFE, 0x0101⟩ running [] 8 = true := by decide

theorem test_decDE_A16_5 :
    ends (start ⟨0x00F0, 0x0000, 0x0000, 0x0000, 0xFFFE, 0x0100⟩ running .two [(0x0100, 0x1B)])
      ⟨0x00F0, 0x0000, 0xFFFF, 0x0000, 0xFFFE, 0x0101⟩ running [] 8 = true := by decide

theorem test_addSPe8_A16_6 :
    ends (start ⟨0x0000, 0x0000, 0x0000, 0x0000, 0xFFF8, 0x0100⟩ running .two [(0x0100, 0xE8), (0x0101, 0x08)])
      ⟨0x0030, 0x0000, 0x0000, 0x0000, 0x0000, 0x0102⟩ running [] 16 = true := by decide

theorem test_addSPe8_A16_8 :
    ends (start ⟨0x0000, 0x0000, 0x0000, 0x0000, 0x0010, 0x0100⟩ running .two [(0x0100, 0xE8), (0x0101, 0xFF)])
      ⟨0x0010, 0x0000, 0x0000, 0x0000, 0x000F, 0x0102⟩ running [] 16 = true := by decide

theorem test_rlca_R_1 :
    ends (start ⟨0x8500, 0x0000, 0x0000, 0x0000, 0xFFFE, 0x0100⟩ running .two [(0x0100, 0x07)])
      ⟨0x0B10, 0x0000, 0x0000, 0x0000, 0xFFFE, 0x0101⟩ running [] 4 = true := by decide

theorem test_rrca_R_3 :
    ends (start ⟨0x3B00, 0x0000, 0x0000, 0x0000, 0xFFFE, 0x0100⟩ running .two [(0x0100, 0x0F)])
      ⟨0x9D10, 0x0000, 0x0000, 0x0000, 0xFFFE, 0x0101⟩ running [] 4 = true := by decide

theorem test_rla_R_4 :
    ends (start ⟨0x8000, 0x0000, 0x0000, 0x0000, 0xFFFE, 0x0100⟩ running .two [(0x0100, 0x17)])
      ⟨0x0010, 0x0000, 0x0000, 0x0000, 0xFFFE, 0x0101⟩ running [] 4 = true := by decide

theorem test_rra_R_5 :
    ends (start ⟨0x0100, 0x0000, 0x0000, 0x0000, 0xFFFE, 0x0100⟩ running .two [(0x0100, 0x1F)])
      ⟨0x0010, 0x0000, 0x0000, 0x0000, 0xFFFE, 0x0101⟩ running [] 4 = true := by decide

theorem test_rlcA_R_6 :
    ends (start ⟨0x0000, 0x0000, 0x0000, 0x0000, 0xFFFE, 0x0100⟩ running .two [(0x0100, 0xCB), (0x0101, 0x07)])
      ⟨0x0080, 0x0000, 0x0000, 0x0000, 0xFFFE, 0x0102⟩ running [] 8 = true := by decide

theorem test_rrcC_R_7 :
    ends (start ⟨0x0000, 0x0001, 0x0000, 0x0000, 0xFFFE, 0x0100⟩ running .two [(0x0100, 0xCB), (0x0101, 0x09)])
      ⟨0x0010, 0x0080, 0x0000, 0x0000, 0xFFFE, 0x0102⟩ running [] 8 = true := by decide

theorem test_rlL_R_8 :
    ends (start ⟨0x0000, 0x0000, 0x0000, 0x0080, 0xFFFE, 0x0100⟩ running .two [(0x0100, 0xCB), (0x0101, 0x15)])
      ⟨0x0090, 0x0000, 0x0000, 0x0000, 0xFFFE, 0x0102⟩ running [] 8 = true := by decide

theorem test_rrAtHL_R_9 :
    ends (start ⟨0x0000, 0x0000, 0x0000, 0xC000, 0xFFFE, 0x0100⟩ running .two [(0x0100, 0xCB), (0x0101, 0x1E), (0xC000, 0x8A)])
      ⟨0x0000, 0x0000, 0x0000, 0xC000, 0xFFFE, 0x0102⟩ running [(0xC000, 0x45)] 16 = true := by decide

theorem test_slaD_R_10 :
    ends (start ⟨0x0000, 0x0000, 0x8000, 0x0000, 0xFFFE, 0x0100⟩ running .two [(0x0100, 0xCB), (0x0101, 0x22)])
      ⟨0x0090, 0x0000, 0x0000, 0x0000, 0xFFFE, 0x0102⟩ running [] 8 = true := by decide

theorem test_sraA_R_11 :
    ends (start ⟨0x8A00, 0x0000, 0x0000, 0x0000, 0xFFFE, 0x0100⟩ running .two [(0x0100, 0xCB), (0x0101, 0x2F)])
      ⟨0xC500, 0x0000, 0x0000, 0x0000, 0xFFFE, 0x0102⟩ running [] 8 = true := by decide

theorem test_swapA_R_12 :
    ends (start ⟨0xF010, 0x0000, 0x0000, 0x0000, 0xFFFE, 0x0100⟩ running .two [(0x0100, 0xCB), (0x0101, 0x37)])
      ⟨0x0F00, 0x0000, 0x0000, 0x0000, 0xFFFE, 0x0102⟩ running [] 8 = true := by decide

theorem test_swapAtHL_R_13 :
    ends (start ⟨0x0000, 0x0000, 0x0000, 0xC000, 0xFFFE, 0x0100⟩ running .two [(0x0100, 0xCB), (0x0101, 0x36)])
      ⟨0x0080, 0x0000, 0x0000, 0xC000, 0xFFFE, 0x0102⟩ running [(0xC000, 0x00)] 16 = true := by decide

theorem test_srlA_R_14 :
    ends (start ⟨0x0100, 0x0000, 0x0000, 0x0000, 0xFFFE, 0x0100⟩ running .two [(0x0100, 0xCB), (0x0101, 0x3F)])
      ⟨0x0090, 0x0000, 0x0000, 0x0000, 0xFFFE, 0x0102⟩ running [] 8 = true := by decide

theorem test_bit7A_R_15 :
    ends (start ⟨0x8010, 0x0000, 0x0000, 0x0000, 0xFFFE, 0x0100⟩ running .two [(0x0100, 0xCB), (0x0101, 0x7F)])
      ⟨0x8030, 0x0000, 0x0000, 0x0000, 0xFFFE, 0x0102⟩ running [] 8 = true := by decide

theorem test_bit4L_R_16 :
    ends (start ⟨0x0000, 0x0000, 0x0000, 0x00EF, 0xFFFE, 0x0100⟩ running .two [(0x0100, 0xCB), (0x0101, 0x65)])
      ⟨0x00A0, 0x0000, 0x0000, 0x00EF, 0xFFFE, 0x0102⟩ running [] 8 = true := by decide

theorem test_bit0AtHL_R_17 :
    ends (start ⟨0x0000, 0x0000, 0x0000, 0xC000, 0xFFFE, 0x0100⟩ running .two [(0x0100, 0xCB), (0x0101, 0x46), (0xC000, 0xFE)])
      ⟨0x00A0, 0x0000, 0x0000, 0xC000, 0xFFFE, 0x0102⟩ running [(0xC000, 0xFE)] 12 = true := by decide

theorem test_res7A_R_18 :
    ends (start ⟨0x80F0, 0x0000, 0x0000, 0x0000, 0xFFFE, 0x0100⟩ running .two [(0x0100, 0xCB), (0x0101, 0xBF)])
      ⟨0x00F0, 0x0000, 0x0000, 0x0000, 0xFFFE, 0x0102⟩ running [] 8 = true := by decide

theorem test_res3AtHL_R_19 :
    ends (start ⟨0x0000, 0x0000, 0x0000, 0xC000, 0xFFFE, 0x0100⟩ running .two [(0x0100, 0xCB), (0x0101, 0x9E), (0xC000, 0xFF)])
      ⟨0x0000, 0x0000, 0x0000, 0xC000, 0xFFFE, 0x0102⟩ running [(0xC000, 0xF7)] 16 = true := by decide

theorem test_set3AtHL_R_20 :
    ends (start ⟨0x0000, 0x0000, 0x0000, 0xC000, 0xFFFE, 0x0100⟩ running .two [(0x0100, 0xCB), (0x0101, 0xDE)])
      ⟨0x0000, 0x0000, 0x0000, 0xC000, 0xFFFE, 0x0102⟩ running [(0xC000, 0x08)] 16 = true := by decide

theorem test_set1E_R_21 :
    ends (start ⟨0x0000, 0x0000, 0x0000, 0x0000, 0xFFFE, 0x0100⟩ running .two [(0x0100, 0xCB), (0x0101, 0xCB)])
      ⟨0x0000, 0x0000, 0x0002, 0x0000, 0xFFFE, 0x0102⟩ running [] 8 = true := by decide

theorem test_jpa16_C_1 :
    ends (start ⟨0x0000, 0x0000, 0x0000, 0x0000, 0xFFFE, 0x0100⟩ running .two [(0x0100, 0xC3), (0x0101, 0x34), (0x0102, 0x12)])
      ⟨0x0000, 0x0000, 0x0000, 0x0000, 0xFFFE, 0x1234⟩ running [] 16 = true := by decide

theorem test_jpNZa16_taken_C_2 :
    ends (start ⟨0x0000, 0x0000, 0x0000, 0x0000, 0xFFFE, 0x0100⟩ running .two [(0x0100, 0xC2), (0x0101, 0x34), (0x0102, 0x12)])
      ⟨0x0000, 0x0000, 0x0000, 0x0000, 0xFFFE, 0x1234⟩ running [] 16 = true := by decide

theorem test_jpZa16_not_taken_C_3 :
    ends (start ⟨0x0000, 0x0000, 0x0000, 0x0000, 0xFFFE, 0x0100⟩ running .two [(0x0100, 0xCA), (0x0101, 0x34), (0x0102, 0x12)])
      ⟨0x0000, 0x0000, 0x0000, 0x0000, 0xFFFE, 0x0103⟩ running [] 12 = true := by decide

theorem test_jpHL_C_4 :
    ends (start ⟨0x0000, 0x0000, 0x0000, 0xC000, 0xFFFE, 0x0100⟩ running .two [(0x0100, 0xE9)])
      ⟨0x0000, 0x0000, 0x0000, 0xC000, 0xFFFE, 0xC000⟩ running [] 4 = true := by decide

theorem test_jre8_wraps_C_5 :
    ends (start ⟨0x0000, 0x0000, 0x0000, 0x0000, 0xFFFE, 0xFFFE⟩ running .two [(0xFFFE, 0x18), (0xFFFF, 0x05)])
      ⟨0x0000, 0x0000, 0x0000, 0x0000, 0xFFFE, 0x0005⟩ running [] 12 = true := by decide

theorem test_jrNCe8_not_taken_C_7 :
    ends (start ⟨0x0010, 0x0000, 0x0000, 0x0000, 0xFFFE, 0x0100⟩ running .two [(0x0100, 0x30), (0x0101, 0x80)])
      ⟨0x0010, 0x0000, 0x0000, 0x0000, 0xFFFE, 0x0102⟩ running [] 8 = true := by decide

theorem test_jrCe8_taken_C_8 :
    ends (start ⟨0x0010, 0x0000, 0x0000, 0x0000, 0xFFFE, 0x0100⟩ running .two [(0x0100, 0x38), (0x0101, 0x80)])
      ⟨0x0010, 0x0000, 0x0000, 0x0000, 0xFFFE, 0x0082⟩ running [] 12 = true := by decide

theorem test_callNZa16_not_taken_C_9 :
    ends (start ⟨0x0080, 0x0000, 0x0000, 0x0000, 0xFFFE, 0x0100⟩ running .two [(0x0100, 0xC4), (0x0101, 0x00), (0x0102, 0x20)])
      ⟨0x0080, 0x0000, 0x0000, 0x0000, 0xFFFE, 0x0103⟩ running [] 12 = true := by decide

theorem test_callCa16_taken_C_10 :
    ends (start ⟨0x0010, 0x0000, 0x0000, 0x0000, 0xFFFE, 0x0100⟩ running .two [(0x0100, 0xDC), (0x0101, 0x00), (0x0102, 0x20)])
      ⟨0x0010, 0x0000, 0x0000, 0x0000, 0xFFFC, 0x2000⟩ running [(0xFFFD, 0x01), (0xFFFC, 0x03)] 24 = true := by decide

theorem test_ret_C_11 :
    ends (start ⟨0x0000, 0x0000, 0x0000, 0x0000, 0xFFFC, 0x0100⟩ running .two [(0x0100, 0xC9), (0xFFFC, 0x53), (0xFFFD, 0x01)])
      ⟨0x0000, 0x0000, 0x0000, 0x0000, 0xFFFE, 0x0153⟩ running [] 16 = true := by decide

theorem test_retZ_taken_C_12 :
    ends (start ⟨0x0080, 0x0000, 0x0000, 0x0000, 0xFFFC, 0x0100⟩ running .two [(0x0100, 0xC8), (0xFFFC, 0x53), (0xFFFD, 0x01)])
      ⟨0x0080, 0x0000, 0x0000, 0x0000, 0xFFFE, 0x0153⟩ running [] 20 = true := by decide

theorem test_retNC_not_taken_C_13 :
    ends (start ⟨0x0010, 0x0000, 0x0000, 0x0000, 0xFFFC, 0x0100⟩ running .two [(0x0100, 0xD0), (0xFFFC, 0x53), (0xFFFD, 0x01)])
      ⟨0x0010, 0x0000, 0x0000, 0x0000, 0xFFFC, 0x0101⟩ running [] 8 = true := by decide

theorem test_reti_C_14 :
    ends (start ⟨0x0000, 0x0000, 0x0000, 0x0000, 0xFFFC, 0x0100⟩ running .two [(0x0100, 0xD9), (0xFFFC, 0x53), (0xFFFD, 0x01)])
      ⟨0x0000, 0x0000, 0x0000, 0x0000, 0xFFFE, 0x0153⟩ ⟨true, false, false, false⟩ [] 16 = true := by decide

theorem test_rst38H_C_15 :
    ends (start ⟨0x0000, 0x0000, 0x0000, 0x0000, 0xFFFE, 0x0100⟩ running .two [(0x0100, 0xFF)])
      ⟨0x0000, 0x0000, 0x0000, 0x0000, 0xFFFC, 0x0038⟩ running [(0xFFFD, 0x01), (0xFFFC, 0x01)] 16 = true := by decide

theorem test_rst00H_wraps_C_16 :
    ends (start ⟨0x0000, 0x0000, 0x0000, 0x0000, 0xFFFE, 0xFFFF⟩ running .two [(0xFFFF, 0xC7)])
      ⟨0x0000, 0x0000, 0x0000, 0x0000, 0xFFFC, 0x0000⟩ running [(0xFFFD, 0x00), (0xFFFC, 0x00)] 16 = true := by decide

theorem test_calla16_S2 :
    ends (start ⟨0x0000, 0x0000, 0x0000, 0x0000, 0xFFFE, 0x0150⟩ running .two [(0x0150, 0xCD), (0x0151, 0x00), (0x0152, 0x01)])
      ⟨0x0000, 0x0000, 0x0000, 0x0000, 0xFFFC, 0x0100⟩ running [(0xFFFD, 0x01), (0xFFFC, 0x53)] 24 = true := by decide

theorem test_addAB_S1 :
    ends (start ⟨0x3C00, 0x2C00, 0x0000, 0x0000, 0xFFFE, 0x0100⟩ running .two [(0x0100, 0x80)])
      ⟨0x6820, 0x2C00, 0x0000, 0x0000, 0xFFFE, 0x0101⟩ running [] 4 = true := by decide

theorem test_nop_S_1 :
    ends (start ⟨0x0000, 0x0000, 0x0000, 0x0000, 0xFFFE, 0x0100⟩ running .two [(0x0100, 0x00)])
      ⟨0x0000, 0x0000, 0x0000, 0x0000, 0xFFFE, 0x0101⟩ running [] 4 = true := by decide

theorem test_halt_S_2 :
    ends (start ⟨0x0000, 0x0000, 0x0000, 0x0000, 0xFFFE, 0x0100⟩ running .two [(0x0100, 0x76)])
      ⟨0x0000, 0x0000, 0x0000, 0x0000, 0xFFFE, 0x0101⟩ ⟨false, false, true, false⟩ [] 4 = true := by decide

theorem test_stop_S_3 :
    ends (start ⟨0x0000, 0x0000, 0x0000, 0x0000, 0xFFFE, 0x0100⟩ running .two [(0x0100, 0x10), (0x0101, 0x00)])
      ⟨0x0000, 0x0000, 0x0000, 0x0000, 0xFFFE, 0x0102⟩ ⟨false, false, false, true⟩ [] 4 = true := by decide

theorem test_stop_one_byte_S_4 :
    ends (start ⟨0x0000, 0x0000, 0x0000, 0x0000, 0xFFFE, 0x0100⟩ running .one [(0x0100, 0x10), (0x0101, 0x00)])
      ⟨0x0000, 0x0000, 0x0000, 0x0000, 0xFFFE, 0x0101⟩ ⟨false, false, false, true⟩ [] 4 = true := by decide

theorem test_di_S_6 :
    ends (start ⟨0x0000, 0x0000, 0x0000, 0x0000, 0xFFFE, 0x0100⟩ ⟨true, false, false, false⟩ .two [(0x0100, 0xF3)])
      ⟨0x0000, 0x0000, 0x0000, 0x0000, 0xFFFE, 0x0101⟩ running [] 4 = true := by decide

theorem test_ei_S_7 :
    ends (start ⟨0x0000, 0x0000, 0x0000, 0x0000, 0xFFFE, 0x0100⟩ running .two [(0x0100, 0xFB)])
      ⟨0x0000, 0x0000, 0x0000, 0x0000, 0xFFFE, 0x0101⟩ ⟨false, true, false, false⟩ [] 4 = true := by decide

theorem test_ei_queues_again_S_8 :
    ends (start ⟨0x0000, 0x0000, 0x0000, 0x0000, 0xFFFE, 0x0100⟩ ⟨false, true, false, false⟩ .two [(0x0100, 0xFB)])
      ⟨0x0000, 0x0000, 0x0000, 0x0000, 0xFFFE, 0x0101⟩ ⟨true, true, false, false⟩ [] 4 = true := by decide

theorem test_ei_then_di_S_9 :
    ends (start ⟨0x0000, 0x0000, 0x0000, 0x0000, 0xFFFE, 0x0100⟩ ⟨false, true, false, false⟩ .two [(0x0100, 0xF3)])
      ⟨0x0000, 0x0000, 0x0000, 0x0000, 0xFFFE, 0x0101⟩ running [] 4 = true := by decide

theorem test_dispatch_vblank_I_1 :
    ends (start ⟨0x0100, 0x0000, 0x0000, 0x0000, 0xFFFE, 0x0200⟩ ⟨true, false, false, false⟩ .two [(0xFFFF, 0x01), (0xFF0F, 0x01)])
      ⟨0x0100, 0x0000, 0x0000, 0x0000, 0xFFFC, 0x0040⟩ running [(0xFFFD, 0x02), (0xFFFC, 0x00), (0xFF0F, 0x00)] 20 = true := by decide

theorem test_dispatch_timer_before_joypad_I_2 :
    ends (start ⟨0x0100, 0x0000, 0x0000, 0x0000, 0xFFFE, 0x0200⟩ ⟨true, false, false, false⟩ .two [(0xFFFF, 0x1F), (0xFF0F, 0x14)])
      ⟨0x0100, 0x0000, 0x0000, 0x0000, 0xFFFC, 0x0050⟩ running [(0xFFFD, 0x02), (0xFF0F, 0x10)] 20 = true := by decide

theorem test_requested_not_enabled_I_3 :
    ends (start ⟨0x0100, 0x0000, 0x0000, 0x0000, 0xFFFE, 0x0200⟩ ⟨true, false, false, false⟩ .two [(0x0200, 0x00), (0xFFFF, 0x10), (0xFF0F, 0x04)])
      ⟨0x0100, 0x0000, 0x0000, 0x0000, 0xFFFE, 0x0201⟩ ⟨true, false, false, false⟩ [(0xFF0F, 0x04)] 4 = true := by decide

theorem test_upper_bits_ignored_I_4 :
    ends (start ⟨0x0100, 0x0000, 0x0000, 0x0000, 0xFFFE, 0x0200⟩ ⟨true, false, false, false⟩ .two [(0x0200, 0x00), (0xFFFF, 0xE0), (0xFF0F, 0xE0)])
      ⟨0x0100, 0x0000, 0x0000, 0x0000, 0xFFFE, 0x0201⟩ ⟨true, false, false, false⟩ [] 4 = true := by decide

theorem test_ime_false_I_5 :
    ends (start ⟨0x0100, 0x0000, 0x0000, 0x0000, 0xFFFE, 0x0200⟩ running .two [(0x0200, 0x00), (0xFFFF, 0x01), (0xFF0F, 0x01)])
      ⟨0x0100, 0x0000, 0x0000, 0x0000, 0xFFFE, 0x0201⟩ running [(0xFF0F, 0x01)] 4 = true := by decide

theorem test_halted_dispatch_I_6 :
    ends (start ⟨0x0100, 0x0000, 0x0000, 0x0000, 0xFFFE, 0x0201⟩ ⟨true, false, true, false⟩ .two [(0xFFFF, 0x04), (0xFF0F, 0x04)])
      ⟨0x0100, 0x0000, 0x0000, 0x0000, 0xFFFC, 0x0050⟩ running [(0xFFFD, 0x02), (0xFFFC, 0x01), (0xFF0F, 0x00)] 20 = true := by decide

theorem test_halted_idle_I_7 :
    ends (start ⟨0x0100, 0x0000, 0x0000, 0x0000, 0xFFFE, 0x0200⟩ ⟨true, false, true, false⟩ .two [(0xFFFF, 0x04)])
      ⟨0x0100, 0x0000, 0x0000, 0x0000, 0xFFFE, 0x0200⟩ ⟨true, false, true, false⟩ [] 4 = true := by decide

theorem test_stopped_dispatch_I_8 :
    ends (start ⟨0x0100, 0x0000, 0x0000, 0x0000, 0xFFFE, 0x0200⟩ ⟨true, false, false, true⟩ .two [(0xFFFF, 0x01), (0xFF0F, 0x01)])
      ⟨0x0100, 0x0000, 0x0000, 0x0000, 0xFFFC, 0x0040⟩ ⟨false, false, false, true⟩ [(0xFFFD, 0x02), (0xFFFC, 0x00), (0xFF0F, 0x00)] 20 = true := by decide

theorem test_stopped_idle_I_9 :
    ends (start ⟨0x0100, 0x0000, 0x0000, 0x0000, 0xFFFE, 0x0200⟩ ⟨false, false, false, true⟩ .two [(0xFFFF, 0x01), (0xFF0F, 0x01)])
      ⟨0x0100, 0x0000, 0x0000, 0x0000, 0xFFFE, 0x0200⟩ ⟨false, false, false, true⟩ [(0xFF0F, 0x01)] 4 = true := by decide

theorem test_dispatch_keeps_queued_enable_I_10 :
    ends (start ⟨0x0100, 0x0000, 0x0000, 0x0000, 0xFFFE, 0x0200⟩ ⟨true, true, false, false⟩ .two [(0xFFFF, 0x01), (0xFF0F, 0x01)])
      ⟨0x0100, 0x0000, 0x0000, 0x0000, 0xFFFC, 0x0040⟩ ⟨false, true, false, false⟩ [(0xFFFD, 0x02), (0xFFFC, 0x00), (0xFF0F, 0x00)] 20 = true := by decide

theorem test_queued_enable_I_11 :
    ends (start ⟨0x0100, 0x0000, 0x0000, 0x0000, 0xFFFE, 0x0200⟩ ⟨false, true, false, false⟩ .two [(0x0200, 0x00), (0xFFFF, 0x01)])
      ⟨0x0100, 0x0000, 0x0000, 0x0000, 0xFFFE, 0x0201⟩ ⟨true, false, false, false⟩ [] 4 = true := by decide

theorem test_dispatch_push_over_IE_I_12 :
    ends (start ⟨0x0100, 0x0000, 0x0000, 0x0000, 0x0001, 0x0200⟩ ⟨true, false, false, false⟩ .two [(0xFFFF, 0x1F), (0xFF0F, 0x01)])
      ⟨0x0100, 0x0000, 0x0000, 0x0000, 0xFFFF, 0x0040⟩ running [(0x0000, 0x02), (0xFFFF, 0x00), (0xFF0F, 0x00)] 20 = true := by decide

theorem test_priority_S3 :
    ends (start ⟨0x0000, 0x0000, 0x0000, 0x0000, 0xFFFE, 0x0200⟩ ⟨true, false, false, false⟩ .two [(0xFFFF, 0x1F), (0xFF0F, 0x1F)])
      ⟨0x0000, 0x0000, 0x0000, 0x0000, 0xFFFC, 0x0040⟩ running [(0xFFFD, 0x02), (0xFFFC, 0x00), (0xFF0F, 0x1E)] 20 = true := by decide

theorem test_halt_wake_without_service_S5 :
    ends (start ⟨0x0100, 0x0000, 0x0000, 0x0000, 0xFFFE, 0x0201⟩ ⟨false, false, true, false⟩ .two [(0x0201, 0x3C), (0xFFFF, 0x04), (0xFF0F, 0x04)])
      ⟨0x0200, 0x0000, 0x0000, 0x0000, 0xFFFE, 0x0202⟩ running [(0xFF0F, 0x04)] 4 = true := by decide

/-- An illegal opcode: the fault mark, nothing else of the core changed (S-10, S-11 of 95_test_vectors.md). -/
theorem test_illegal_opcode_S_10 :
    let s := start ⟨0, 0, 0, 0, 0xFFFE, 0x0100⟩ ⟨false, true, false, false⟩ .two [(0x0100, 0xD3)]
    (match step s with
      | .next t => decide (t = { s with fault := some (.illegalOpcode 0x0100 0xD3), bus.trace := [.read 0x0100 0xD3] })
      | _ => false) = true := by decide

/-- The bus accesses of one instruction in order: the opcode, the immediates, then the data. -/
theorem test_access_order_of_a_store :
    (match step (start ⟨0x1F00, 0, 0, 0, 0xFFFE, 0x0100⟩ running .two [(0x0100, 0xEA), (0x0101, 0x34), (0x0102, 0x12)]) with
      | .next t => t.bus.trace
      | _ => []) =
      [.read 0x0100 0xEA, .read 0x0101 0x34, .read 0x0102 0x12, .write 0x1234 0x1F] := by decide

/-- A host input comes before the sample: it requests the joypad and stores IE, and the step dispatches. -/
theorem test_host_input_before_the_sample :
    ends { start ⟨0, 0, 0, 0, 0xFFFE, 0x0200⟩ ⟨true, false, true, false⟩ .two [] with
           inputs := [{ stopWake := false, ifSet := 0x10, stores := [(0xFFFF, 0x10)] }] }
      ⟨0, 0, 0, 0, 0xFFFC, 0x0060⟩ running [(0xFF0F, 0x00), (0xFFFD, 0x02), (0xFFFC, 0x00)] 20 = true := by decide

/-- `stopWake` wakes a stopped core, and the same step executes (S-5 of 95_test_vectors.md). -/
theorem test_stop_wake_S_5 :
    ends { start ⟨0x0100, 0, 0, 0, 0xFFFE, 0x0102⟩ ⟨false, false, false, true⟩ .two [(0x0102, 0x3C)] with
           inputs := [{ stopWake := true, ifSet := 0, stores := [] }] }
      ⟨0x0200, 0, 0, 0, 0xFFFE, 0x0103⟩ running [] 4 = true := by decide

/-- A table word of the CB space has its lead byte in bits 15..8, and runs as the first instruction after reset. -/
theorem test_cb_table_word :
    decodeTableWord 16 0xCB37 = some .swapA ∧ decodeTableWord 8 0x3E = some (.ldAd8 0) ∧
      (match step (State.reset.withFetchWord 16 0xCB37) with
        | .next t => t.regs.af
        | _ => 0) = 0x1000 := by decide

/-- A bus that refuses a write (a ROM): LD (0x2000),A leaves the byte at 0x2000; the access happened (20_memory.md R70). -/
theorem test_refused_write :
    (match exec (.ldAtA16A 0x2000) { start ⟨0x1F00, 0, 0, 0, 0xFFFE, 0x0100⟩ running .two [(0x2000, 0x55)] with
        bus.answers := [.own 0 []] } with
      | .next t => decide (t.byteAt 0x2000 = 0x55 ∧ t.bus.trace = [.write 0x2000 0x1F] ∧ t.bus.answers = [])
      | _ => false) = true := by decide

/-- "returning 0xFF during a busy peripheral window", and a read that changes the bus: LD A,(HL) on a byte whose read
clears it (20_memory.md R70, R78). -/
theorem test_read_with_side_effect :
    (match exec .ldAAtHL { start ⟨0, 0, 0, 0xFF41, 0xFFFE, 0x0100⟩ running .two [(0xFF41, 0x81)] with
        bus.answers := [.own 0xFF [(0xFF41, 0x00)]] } with
      | .next t => decide (t.r8 .A = 0xFF ∧ t.byteAt 0xFF41 = 0x00)
      | _ => false) = true := by decide

/-- An opcode the bus answers with a byte of its own is the one that runs; the data access after it is a plain RAM's. -/
theorem test_fetch_asks_the_bus :
    (match step { start ⟨0x0700, 0, 0, 0xC000, 0xFFFE, 0x0100⟩ running .two [] with
        bus.answers := [.own 0x77 []] } with
      | .next t => decide (t.byteAt 0xC000 = 0x07 ∧ t.bus.trace = [.read 0x0100 0x77, .write 0xC000 0x07])
      | _ => false) = true := by decide

/-! ## A state and operands that meet the hypotheses of each statement, its clauses at their boundary values -/

/-- A running state with this interrupt state, these bus bytes, PC 0x0200, SP 0xFFFE. -/
def at0200 (i : IntState) (bytes : List (Word × Byte)) : State := start ⟨0, 0, 0, 0, 0xFFFE, 0x0200⟩ i .two bytes

theorem witness_DecodeEncodeRoundTrip : (Instr.nop).wf = true ∧ (Instr.ldAd8 0xFF).wf = true := by decide
theorem witness_EncodeDecodeRoundTrip : decode [0xFE, 0xFF, 0x00] = .ok (.cpd8 0xFF, [0x00]) := by decide
theorem witness_DecoderIsTotal :
    State.reset.fault = none ∧ exec .illegalD3 State.reset = .next (State.reset.raiseIllegal 0xD3) := ⟨rfl, rfl⟩
theorem witness_StepKeepsInvariant :
    State.reset.Inv ∧ step State.reset = .next (complete 1 4 noOperation State.reset.executing) :=
  ⟨by decide, rfl⟩
/-- Two stores at one address, the IF bits, a byte nothing touches; and no input left. -/
theorem witness_HostInputComesBeforeTheStep :
    let s := { at0200 running [(0x0200, 0x3E), (0xFF0F, 0x01)] with
               inputs := [{ stopWake := false, ifSet := 0x04, stores := [(0xC000, 0x11), (0xC000, 0x22)] }] }
    s.bus.mem.wf ∧ s.beginStep.byteAt 0xC000 = 0x22 ∧ s.beginStep.byteAt 0xFF0F = 0x05 ∧
      s.beginStep.byteAt 0x0200 = 0x3E ∧ State.reset.inputs = [] ∧ State.reset.bus.mem.wf := by decide
/-- The premises of every `Stores` and `KeepsBytesOutside` clause, together: a plain RAM with bytes in it, in canonical
form. -/
theorem witness_Stores : (at0200 running [(0x0200, 0x77), (0xC000, 0x01)]).bus.answers = [] ∧
    (at0200 running [(0x0200, 0x77), (0xC000, 0x01)]).bus.mem.wf := by decide
theorem witness_ResetMeetsInvariant : Bus.freshRam.mem.wf := by decide
theorem witness_StepRunsDecodedInstruction :
    (at0200 running [(0x0200, 0x3E), (0x0201, 0x7F)]).Executes ∧
      decode (at0200 running [(0x0200, 0x3E), (0x0201, 0x7F)]).nextBytes = .ok (.ldAd8 0x7F, [0x00]) :=
  ⟨⟨by decide, by decide, by decide, by decide⟩, by decide⟩
theorem witness_FaultedMachineIsStuck : (State.reset.raiseIllegal 0xD3).fault ≠ none := by decide
theorem witness_IllegalOpcodeStopsTheCore :
    (at0200 running [(0x0200, 0xFD)]).Executes ∧
      (at0200 running [(0x0200, 0xFD)]).nextOpcode = 0xFD :=
  ⟨⟨by decide, by decide, by decide, by decide⟩, by decide⟩
/-- Interrupt 0 with all five pending; interrupt 4 alone. -/
theorem witness_InterruptDispatch :
    let s := at0200 ⟨true, false, false, false⟩ [(0xFFFF, 0x1F), (0xFF0F, 0x1F)]
    let r := at0200 ⟨true, true, true, false⟩ [(0xFFFF, 0x10), (0xFF0F, 0x1F)]
    s.Dispatches ∧ s.sampledPending.getLsbD 0 = true ∧ s.bus.mem.wf ∧
      r.Dispatches ∧ r.sampledPending.getLsbD 4 = true ∧ (∀ j < 4, r.sampledPending.getLsbD j = false) ∧
      (0xFF0F : Word) ∉ [r.regs.sp - 1, r.regs.sp - 2] :=
  ⟨⟨by decide, by decide, by decide⟩, by decide, by decide, ⟨by decide, by decide, by decide⟩, by decide, by decide,
    by decide⟩
/-- Halted with nothing pending; stopped with something pending and IME false. -/
theorem witness_IdleStep :
    (at0200 ⟨true, false, true, false⟩ [(0xFFFF, 0x04)]).Idles ∧
      (at0200 ⟨false, true, false, true⟩ [(0xFFFF, 0x01), (0xFF0F, 0x01)]).Idles :=
  ⟨⟨by decide, by decide, by decide⟩, ⟨by decide, by decide, by decide⟩⟩
theorem witness_HaltWakesWithoutService :
    let s := at0200 ⟨false, false, true, false⟩ [(0xFFFF, 0x04), (0xFF0F, 0x04), (0x0200, 0x76)]
    s.fault = none ∧ s.int.halted = true ∧ s.int.stopped = false ∧ s.int.ime = false ∧ s.sampledPending ≠ 0 ∧
      s.nextOpcode = 0x76 ∧ s.nextOpcode ∉ illegalOpcodes := by decide
/-- DI, EI and NOP after EI. -/
theorem witness_QueuedEnableTakesEffectOneStepLater :
    [0xF3, 0xFB, 0x00].all (fun op =>
      let s := at0200 ⟨false, true, false, false⟩ [(0xFFFF, 0x01), (0xFF0F, 0x01), (0x0200, op)]
      s.fault == none && s.int.ime == false && s.int.eiPending && s.int.halted == false && s.int.stopped == false &&
        s.nextOpcode == op && !illegalOpcodes.contains op) = true := by decide

/-- The step answers a next state that this test accepts. -/
def stepsTo (s : State) (p : State → Bool) : Bool :=
  match step s with
  | .next t => p t
  | _ => false

theorem witness_MasterEnableChangesOnlyAsListed :
    stepsTo (at0200 ⟨false, true, false, false⟩ []) (·.int.ime) = true ∧
      stepsTo (at0200 running [(0x0200, 0xD9)]) (·.int.ime) = true ∧
      stepsTo (at0200 ⟨true, false, false, false⟩ [(0xFFFF, 0x01), (0xFF0F, 0x01)]) (!·.int.ime) = true ∧
      stepsTo (at0200 ⟨true, false, false, false⟩ [(0x0200, 0xF3)]) (!·.int.ime) = true ∧
      stepsTo (at0200 running [(0x0200, 0xFB)]) (·.int.eiPending) = true ∧
      stepsTo (at0200 ⟨false, true, false, false⟩ []) (!·.int.eiPending) = true := by decide
theorem witness_LowPowerStatesChangeOnlyAsListed :
    stepsTo (at0200 running [(0x0200, 0x76)]) (·.int.halted) = true ∧
      stepsTo (at0200 ⟨false, false, true, false⟩ [(0xFFFF, 0x01), (0xFF0F, 0x01)]) (!·.int.halted) = true ∧
      stepsTo (at0200 running [(0x0200, 0x10)]) (·.int.stopped) = true ∧
      stepsTo { at0200 ⟨false, false, false, true⟩ [] with inputs := [{ stopWake := true, ifSet := 0, stores := [] }] }
        (!·.int.stopped) = true := by decide
theorem witness_TickAdvancesByStepCost :
    stepsTo { at0200 running [] with tick := 0xFFFC } (fun t => t.fault.isNone && t.tick == 0) = true ∧
      stepsTo (at0200 running [(0x0200, 0xD3)]) (·.fault.isSome) = true := by decide
/-- A jump not taken, JR taken, CALL taken, an unconditional jump, a CB instruction. -/
theorem witness_CycleTablesGiveEveryCost :
    (match exec (.jrCe8 0) (at0200 running []) with | .next t => !t.scratch.jumped | _ => false) = true ∧
      (match exec (.jrNCe8 0) (at0200 running []) with | .next t => t.scratch.extraCycles == 4 | _ => false) = true ∧
      (match exec (.callNZa16 0) (at0200 running []) with | .next t => t.scratch.extraCycles == 12 | _ => false) = true ∧
      (match exec (.jpa16 0) (at0200 running []) with | .next t => t.scratch.jumped | _ => false) = true ∧
      decode [0x38, 0x00] = .ok (.jrCe8 0, []) ∧ decode [0xCB, 0x46] = .ok (.bit0AtHL, []) := by decide
theorem witness_AccessesOfAStepAreBounded :
    stepsTo (at0200 running [(0x0200, 0xCD)]) (fun t => t.bus.trace.length == 5) = true := by decide
theorem witness_FetchWordIsWhatTheNextStepRuns :
    State.reset.bus.mem.wf ∧ decodeTableWord 24 0x1234C3 = some (.jpa16 0x1234) := by decide
/-- The register fields of the loads, INC, DEC, the ALU, CB and bit statements, at their ends. -/
theorem witness_register_fields :
    Operand8.ofField 0 = .reg .B ∧ Operand8.ofField 5 = .reg .L ∧ Operand8.ofField 7 = .reg .A := by decide
theorem witness_LoadAFromAddress_StoreAToAddress :
    ((0xFA : Byte), (0xEA : Byte), [(0x34 : Byte), 0x12], (0x1234 : Word), 3, 16) ∈
        addressedForms State.reset 0 0x1234 ∧
      ((0xF0 : Byte), (0xE0 : Byte), [(0xFF : Byte)], (0xFFFF : Word), 2, 12) ∈ addressedForms State.reset 0xFF 0 := by
  decide
theorem witness_PushPair : (0x01B0 : Word) = State.reset.r16 (stackPairOfField 3) := by decide
theorem witness_PopPair_Returns :
    (0x00 : Byte) = State.reset.byteAt State.reset.regs.sp ∧
      (0x00 : Byte) = State.reset.byteAt (State.reset.regs.sp + 1) := by decide
theorem witness_IncrementAndDecrementMemory :
    (0x00 : Byte) = State.reset.byteAt State.reset.regs.hl ∧ (0x01 : Byte) = BitVec.ofNat 8 (0 + 1) ∧
      (0xFF : Byte) = BitVec.ofInt 8 (0 - 1) := by decide
theorem witness_DecimalAdjust :
    let s := start ⟨0x9A00, 0, 0, 0, 0, 0⟩ running .two []
    0x9A = (s.r8 .A).toNat ∧ true = (s.flag .C || (!s.flag .N && decide (0x9A > 0x99))) ∧
      true = (s.flag .H || (!s.flag .N && decide (0x9A % 16 > 0x09))) := by decide
theorem witness_DecimalArithmeticIsCorrect :
    let s := start ⟨0x9910, 0x9900, 0, 0, 0, 0⟩ running .two []
    let r := start ⟨0x0000, 0x0000, 0, 0, 0, 0⟩ running .two []
    s.r8 .A = bcd 99 ∧ s.r8 .B = bcd 99 ∧ r.r8 .A = bcd 0 ∧ r.r8 .B = bcd 0 := by decide
theorem witness_AddPairToHL : (0xFFFE : Word) = State.reset.r16 (pairOfField 3) := by decide
theorem witness_RotateAccumulator :
    0x01 = (State.reset.r8 .A).toNat ∧ true = State.reset.flag .C ∧
      2 = (2 * 0x01 % 256 + 0x01 / 128) ∧ false = decide (0x01 ≥ 128) := by decide
theorem witness_CbRotates_CbShifts_SwapNibbles :
    (0x00 : Byte) = State.reset.byteAt State.reset.regs.hl ∧
      (0x01 : Byte).toNat = 2 * 0 % 256 + (State.reset.flag .C).toNat ∧ (0xF1 : Byte).toNat = 0x1F % 16 * 16 + 0x1F / 16 :=
  by decide
theorem witness_RelativeJumps :
    (0x0082 : Word) = BitVec.ofInt 16 (State.reset.regs.pc.toNat + 2 + (0x80 : Byte).toInt) := by decide
theorem witness_SystemInstructions :
    ((0xFB : Byte), ({ running with eiPending := true } : IntState)) ∈
      [((0x00 : Byte), running), (0x76, { running with halted := true }), (0xF3, { running with ime := false }),
        (0xFB, { running with eiPending := true })] := by decide
theorem witness_StopInstruction : 2 = (if State.reset.params.stopBytes = .one then 1 else 2) := by decide

end Sys2Proof.Tests
end

section
/-! 8-bit loads (40_load8.md R140 to R153): the decoder on an opcode and its immediates, the register field as seven
cases, what a load into one register does as a whole instruction, and the family's statements. -/

namespace Sys2Proof

/-! ## The decoder by the format of the opcode (30_encoding.md R100, R103) -/

theorem decode_of_P1 {op : Byte} (h : formatOf op = .P1) (rest : List Byte) :
    decode (op :: rest) = .ok (ofPrimary op 0 0, rest) := by
  simp only [decode, h]

theorem decode_of_P2 {op : Byte} (h : formatOf op = .P2) (n : Byte) (rest : List Byte) :
    decode (op :: n :: rest) = .ok (ofPrimary op n 0, rest) := by
  simp only [decode, h]

/-- A 16-bit immediate is fetched low byte first. -/
theorem decode_of_P3 {op : Byte} (h : formatOf op = .P3) (nn : Word) (rest : List Byte) :
    decode (op :: lo8 nn :: hi8 nn :: rest) = .ok (ofPrimary op 0 nn, rest) := by
  simp only [decode, h, cat16_hi8_lo8]

/-- The opcodes `01 yyy zzz` have no immediate. -/
theorem formatOf_block01 : ∀ y z : BitVec 3, formatOf (0b01#2 ++ y ++ z) = .P1 := by decide

/-- The opcodes `00 yyy 110` have an 8-bit immediate. -/
theorem formatOf_column110 : ∀ y : BitVec 3, formatOf (0b00#2 ++ y ++ 0b110#3) = .P2 := by decide

end Sys2Proof

namespace Sys2Proof.Machine

/-! ## Register fields and the high page -/

/-- The seven rows of the register field's table that name a register (30_encoding.md R104). -/
inductive RegField : BitVec 3 → Reg8 → Prop
  | B : RegField 0 .B
  | C : RegField 1 .C
  | D : RegField 2 .D
  | E : RegField 3 .E
  | H : RegField 4 .H
  | L : RegField 5 .L
  | A : RegField 7 .A

theorem regField_of_ofField {f : BitVec 3} {r : Reg8} (h : Operand8.ofField f = .reg r) : RegField f r := by
  have eight : ∀ g : BitVec 3, g = 0 ∨ g = 1 ∨ g = 2 ∨ g = 3 ∨ g = 4 ∨ g = 5 ∨ g = 6 ∨ g = 7 := by decide
  rcases eight f with rfl | rfl | rfl | rfl | rfl | rfl | rfl | rfl <;> cases h <;> constructor

/-- The high-page address puts 0xFF above the offset (30_encoding.md R112). -/
theorem highPage_eq_cat16 (n : Byte) : highPage n = cat16 0xFF n := by
  apply BitVec.eq_of_toNat_eq
  rw [cat16_toNat]
  have hn := n.isLt
  simp only [highPage, zext16, BitVec.toNat_add, BitVec.toNat_setWidth, BitVec.reduceToNat]
  omega

/-! ## A load into one register as a whole instruction -/

/-- An instruction whose handler sets register `d`, and leaves all else but the bus as the fetch left it. -/
theorem complete_setR8_onBus {d : Reg8} {v : Byte} {b : Bus} {len : Nat} (base : Nat) {h : State → State} {s : State}
    (hd : d ≠ .F) (hl : len ≤ 3) (hh : h (s.fetched len) = ({ s.fetched len with bus := b } : State).setR8 d v) :
    (complete len base h s).r8 d = v ∧ OnlyReg8 [d] s (complete len base h s) ∧
      Advances len base s (complete len base h s) := by
  refine ⟨?_, ?_, ?_⟩
  · rw [r8_complete, hh, r8_setR8_same _ _ _ hd]
  · apply complete_onlyReg8 <;> rw [hh]
    case hr =>
      intro q hq
      exact r8_setR8_other _ _ _ _ (List.mem_singleton.not.mp hq)
    all_goals simp
  · apply complete_advances _ _ _ _ hl <;> rw [hh] <;> simp

/-- An instruction whose handler only sets register `d` to `v`. -/
theorem complete_setR8 {d : Reg8} {v : Byte} {len : Nat} (base : Nat) {h : State → State} {s : State} (hd : d ≠ .F)
    (hl : len ≤ 3) (hh : h (s.fetched len) = (s.fetched len).setR8 d v) :
    (complete len base h s).r8 d = v ∧ OnlyReg8 [d] s (complete len base h s) ∧
      KeepsBytesOutside [] s (complete len base h s) ∧ Accesses [] s (complete len base h s) ∧
      Advances len base s (complete len base h s) := by
  obtain ⟨value, frame, advance⟩ := complete_setR8_onBus (b := s.bus) base hd hl hh
  obtain ⟨accesses, bytes⟩ := complete_noAccess len base h s (by rw [hh]; simp)
  exact ⟨value, frame, bytes, accesses, advance⟩

/-- An instruction whose handler only loads register `d` with the byte read at `a`. -/
theorem complete_loadFrom {d : Reg8} {a : Word} {len : Nat} (base : Nat) {h : State → State} {s : State} (hd : d ≠ .F)
    (hl : len ≤ 3) (hh : h (s.fetched len) = loadFrom d a (s.fetched len)) :
    (complete len base h s).r8 d = s.readByte a ∧ OnlyReg8 [d] s (complete len base h s) ∧
      KeepsBytesOutside [] s (complete len base h s) ∧
      Accesses [.read a (s.readByte a)] s (complete len base h s) ∧
      Advances len base s (complete len base h s) := by
  obtain ⟨value, frame, advance⟩ := complete_setR8_onBus (b := s.bus.afterRead a) base hd hl hh
  obtain ⟨accesses, bytes⟩ := complete_reads a len base h s (by rw [hh]; simp [loadFrom])
  exact ⟨value, frame, bytes, accesses, advance⟩

/-! ## What each opcode of the family decodes to and executes -/

theorem ldRegReg_form {y z : BitVec 3} {d r : Reg8} (hy : RegField y d) (hz : RegField z r) :
    ∃ i, (∀ rest, decode ((0b01#2 ++ y ++ z) :: rest) = .ok (i, rest)) ∧ ∀ s, exec i s = done 1 4 (loadReg d r) s := by
  refine ⟨_, decode_of_P1 (formatOf_block01 y z), fun s => ?_⟩
  cases hy <;> cases hz <;> rfl

theorem ldRegImm_form {y : BitVec 3} {d : Reg8} (hy : RegField y d) (n : Byte) :
    ∃ i, (∀ rest, decode ((0b00#2 ++ y ++ 0b110#3) :: n :: rest) = .ok (i, rest)) ∧
      ∀ s, exec i s = done 2 8 (loadImm d n) s := by
  refine ⟨_, decode_of_P2 (formatOf_column110 y) n, fun s => ?_⟩
  cases hy <;> rfl

theorem ldRegAtHL_form {y : BitVec 3} {d : Reg8} (hy : RegField y d) :
    ∃ i, (∀ rest, decode ((0b01#2 ++ y ++ 0b110#3) :: rest) = .ok (i, rest)) ∧
      ∀ s, exec i s = done 1 8 (loadAtHL d) s := by
  refine ⟨_, decode_of_P1 (formatOf_block01 y 0b110), fun s => ?_⟩
  cases hy <;> rfl

/-- Each addressed load of A runs a handler that is `loadFrom .A` at the address its row gives. -/
theorem ldAAddressed_form {n : Byte} {nn : Word} {s : State} {load store : Byte} {operand : List Byte} {a : Word}
    {len cost : Nat} (hf : (load, store, operand, a, len, cost) ∈ addressedForms s n nn) (rest : List Byte) :
    ∃ i h, decode (load :: (operand ++ rest)) = .ok (i, rest) ∧ exec i s = done len cost h s ∧ len ≤ 3 ∧
      h (s.fetched len) = loadFrom .A a (s.fetched len) := by
  simp only [addressedForms, ← highPage_eq_cat16, List.mem_cons, List.not_mem_nil, or_false, Prod.mk.injEq] at hf
  rcases hf with ⟨rfl, -, rfl, rfl, rfl, rfl⟩ | ⟨rfl, -, rfl, rfl, rfl, rfl⟩ | ⟨rfl, -, rfl, rfl, rfl, rfl⟩ |
    ⟨rfl, -, rfl, rfl, rfl, rfl⟩ | ⟨rfl, -, rfl, rfl, rfl, rfl⟩
  · exact ⟨.ldAAtBC, _, decode_of_P1 (by decide) rest, rfl, by decide, rfl⟩
  · exact ⟨.ldAAtDE, _, decode_of_P1 (by decide) rest, rfl, by decide, rfl⟩
  · exact ⟨.ldAAtA16 a, _, decode_of_P3 (by decide) a rest, rfl, by decide, rfl⟩
  · exact ⟨.ldhAAtA8 n, _, decode_of_P2 (by decide) n rest, rfl, by decide, rfl⟩
  · exact ⟨.ldAAtC, _, decode_of_P1 (by decide) rest, rfl, by decide, rfl⟩

/-! ## The statements -/

/-- Settles O24: the seven by seven register fields run `loadReg`, which sets one register. -/
theorem loadRegisterFromRegister : Obligations.LoadRegisterFromRegister := by
  intro y z d r rest s hy hz
  obtain ⟨i, hdec, hexec⟩ := ldRegReg_form (regField_of_ofField hy) (regField_of_ofField hz)
  exact ⟨i, _, hdec rest, hexec s, complete_setR8 4 (ofField_ne_F hy) (by decide) rfl⟩

/-- Settles O25: the seven register fields run `loadImm`, which sets one register. -/
theorem loadRegisterFromImmediate : Obligations.LoadRegisterFromImmediate := by
  intro y d n rest s hy
  obtain ⟨i, hdec, hexec⟩ := ldRegImm_form (regField_of_ofField hy) n
  exact ⟨i, _, hdec rest, hexec s, complete_setR8 8 (ofField_ne_F hy) (by decide) rfl⟩

/-- Settles O26: the seven register fields run `loadFrom` at the HL of before the load. -/
theorem loadRegisterFromMemory : Obligations.LoadRegisterFromMemory := by
  intro y d rest s hy
  obtain ⟨i, hdec, hexec⟩ := ldRegAtHL_form (regField_of_ofField hy)
  exact ⟨i, _, hdec rest, hexec s, complete_loadFrom 8 (ofField_ne_F hy) (by decide) rfl⟩

/-- Settles O28: each of the five rows runs `loadFrom .A` at its address. -/
theorem loadAFromAddress : Obligations.LoadAFromAddress := by
  intro n nn rest s load store operand a len cost hf
  obtain ⟨i, h, hdec, hexec, hlen, hload⟩ := ldAAddressed_form hf rest
  exact ⟨i, _, hdec, hexec, complete_loadFrom cost (by decide) hlen hload⟩

end Sys2Proof.Machine
end

section
/-! 16-bit loads (41_load16.md R180, R182): the register pair field as four cases, what a write of one register pair does
as a whole instruction, and the family's statement. -/

namespace Sys2Proof

/-- The opcodes `00 pp 0001` have a 16-bit immediate. -/
theorem formatOf_column0001 : ∀ p : BitVec 2, formatOf (0b00#2 ++ p ++ 0b0001#4) = .P3 := by decide

end Sys2Proof

namespace Sys2Proof.Machine

/-! ## The register pair field -/

/-- The four rows of the register pair field's table (30_encoding.md R105). -/
inductive PairField : BitVec 2 → Reg16 → Prop
  | BC : PairField 0 .BC
  | DE : PairField 1 .DE
  | HL : PairField 2 .HL
  | SP : PairField 3 .SP

theorem pairField_pairOfField (p : BitVec 2) : PairField p (pairOfField p) := by
  have four : ∀ q : BitVec 2, q = 0 ∨ q = 1 ∨ q = 2 ∨ q = 3 := by decide
  rcases four p with rfl | rfl | rfl | rfl <;> constructor

theorem PairField.ne_AF {p : BitVec 2} {rr : Reg16} (h : PairField p rr) : rr ≠ .AF := by cases h <;> decide

theorem PairField.ne_PC {p : BitVec 2} {rr : Reg16} (h : PairField p rr) : rr ≠ .PC := by cases h <;> decide

/-! ## A write of one register pair as a whole instruction -/

theorem r16_setR16_other (s : State) {rr q : Reg16} (v : Word) (h : q ≠ rr) : (s.setR16 rr v).r16 q = s.r16 q := by
  cases rr <;> cases q <;> first | rfl | exact absurd rfl h

/-- Completing an instruction writes no register but PC. -/
theorem r16_complete (len base : Nat) (h : State → State) (s : State) {q : Reg16} (hq : q ≠ .PC) :
    (complete len base h s).r16 q = (h (s.fetched len)).r16 q := by
  unfold complete State.advancePc
  split <;> cases q <;> first | rfl | exact absurd rfl hq

/-- An instruction whose handler only sets the register pair `rr` to `v`. -/
theorem complete_setR16 {rr : Reg16} {v : Word} {len : Nat} (base : Nat) {h : State → State} {s : State}
    (haf : rr ≠ .AF) (hpc : rr ≠ .PC) (hl : len ≤ 3) (hh : h (s.fetched len) = (s.fetched len).setR16 rr v) :
    (complete len base h s).r16 rr = v ∧ OnlyReg16 [rr] s (complete len base h s) ∧
      KeepsBytesOutside [] s (complete len base h s) ∧ Accesses [] s (complete len base h s) ∧
      Advances len base s (complete len base h s) := by
  obtain ⟨accesses, bytes⟩ := complete_noAccess len base h s (by rw [hh]; simp)
  refine ⟨?value, ?frame, bytes, accesses, ?advance⟩
  case value => rw [r16_complete _ _ _ _ hpc, hh, r16_setR16_same _ _ _ haf]
  case frame =>
    apply complete_onlyReg16 <;> rw [hh]
    case hr =>
      intro q hq _
      exact r16_setR16_other _ _ (List.mem_singleton.not.mp hq)
    all_goals simp
  case advance => apply complete_advances _ _ _ _ hl <;> rw [hh] <;> simp [hpc]

/-! ## What each opcode of the family decodes to and executes -/

theorem ldPairImm_form {p : BitVec 2} {rr : Reg16} (hp : PairField p rr) (nn : Word) :
    ∃ i, (∀ rest, decode ((0b00#2 ++ p ++ 0b0001#4) :: lo8 nn :: hi8 nn :: rest) = .ok (i, rest)) ∧
      ∀ s, exec i s = done 3 12 (loadPair rr nn) s := by
  refine ⟨_, decode_of_P3 (formatOf_column0001 p) nn, fun s => ?_⟩
  cases hp <;> rfl

/-! ## The statement -/

/-- Settles O31: the four pair fields run `loadPair`, which sets one pair, and LD SP,HL sets SP to the HL of before. -/
theorem loadPairs : Obligations.LoadPairs := by
  refine ⟨fun p nn rest s => ?immediate, fun rest s => ?copy⟩
  case immediate =>
    have hp := pairField_pairOfField p
    obtain ⟨i, hdec, hexec⟩ := ldPairImm_form hp nn
    exact ⟨i, _, hdec rest, hexec s, complete_setR16 12 hp.ne_AF hp.ne_PC (by decide) rfl⟩
  case copy =>
    exact ⟨.ldSPHL, _, decode_of_P1 (by decide) rest, rfl,
      complete_setR16 (rr := .SP) 8 (by decide) (by decide) (by decide) rfl⟩

end Sys2Proof.Machine
end

section
/-! 8-bit arithmetic and logic (42_alu8.md R210 to R251): the opcodes' formats, bytes as unbounded sums and differences,
what an instruction that writes registers alone does as a whole, what each ALU function computes, and the family's
statements. -/

namespace Sys2Proof

/-! ## The formats of the opcodes (30_encoding.md R100, R101) -/

/-- The opcodes `10 ooo zzz` have no immediate. -/
theorem formatOf_block10 : ∀ o z : BitVec 3, formatOf (0b10#2 ++ o ++ z) = .P1 := by decide

/-- The opcodes `11 ooo 110` have an 8-bit immediate. -/
theorem formatOf_block11_column110 : ∀ o : BitVec 3, formatOf (0b11#2 ++ o ++ 0b110#3) = .P2 := by decide

/-- The opcodes `00 yyy 100` have no immediate. -/
theorem formatOf_column100 : ∀ y : BitVec 3, formatOf (0b00#2 ++ y ++ 0b100#3) = .P1 := by decide

/-- The opcodes `00 yyy 101` have no immediate. -/
theorem formatOf_column101 : ∀ y : BitVec 3, formatOf (0b00#2 ++ y ++ 0b101#3) = .P1 := by decide

/-! ## Bytes as unbounded numbers (00_scope.md R11, R12) -/

theorem ofInt_sub {w : Nat} (x y : Int) : BitVec.ofInt w (x - y) = BitVec.ofInt w x - BitVec.ofInt w y := by
  rw [Int.sub_eq_add_neg, BitVec.ofInt_add, BitVec.ofInt_neg, ← BitVec.sub_eq_add_neg]

theorem ofInt_toNat {w : Nat} (v : BitVec w) : BitVec.ofInt w v.toNat = v := by simp

theorem boolToByte_eq_ofNat (b : Bool) : boolToByte b = BitVec.ofNat 8 b.toNat := by cases b <;> rfl

end Sys2Proof

namespace Sys2Proof.Machine

theorem lowNibble_eq_mod (v : Byte) : lowNibble v = v.toNat % 16 := Nat.and_two_pow_sub_one_eq_mod v.toNat 4

/-- A test of the low nibble as a byte is a test of the number it stands for. -/
theorem lowNibble_beq (v k : Byte) : (v &&& 0x0F#8 == k) = decide (v.toNat % 16 = k.toNat) := by
  rw [← lowNibble_eq_mod, Bool.beq_eq_decide_eq]
  exact decide_eq_decide.mpr BitVec.toNat_inj.symm

/-! ## An instruction that writes registers alone -/

/-- Of the whole state, only registers among `rs` may have changed; PC and SP have not. -/
structure WritesOnly (rs : List Reg8) (s t : State) : Prop where
  rest : OnlyRegisters s t
  reg8 : KeepsReg8 rs s t
  sp : t.regs.sp = s.regs.sp
  pc : t.regs.pc = s.regs.pc

theorem WritesOnly.trans {rs : List Reg8} {s t u : State} (a : WritesOnly rs s t) (b : WritesOnly rs t u) :
    WritesOnly rs s u :=
  ⟨a.rest.trans b.rest, fun q hq => (b.reg8 q hq).trans (a.reg8 q hq), b.sp.trans a.sp, b.pc.trans a.pc⟩

theorem setR8_writesOnly {rs : List Reg8} {r : Reg8} (h : r ∈ rs) (s : State) (v : Byte) :
    WritesOnly rs s (s.setR8 r v) :=
  ⟨setR8_onlyRegisters s r v, fun q hq => r8_setR8_other s r q v (ne_of_mem_of_not_mem h hq).symm, setR8_sp s r v,
    setR8_pc s r v⟩

theorem setFlag_writesOnly {rs : List Reg8} (h : .F ∈ rs) (s : State) (f : Flag) (b : Bool) :
    WritesOnly rs s (s.setFlag f b) :=
  setR8_writesOnly h s _

theorem threeFlags_writesOnly {rs : List Reg8} (hF : .F ∈ rs) (s : State) (f g k : Flag) (a b c : Bool) :
    WritesOnly rs s (((s.setFlag f a).setFlag g b).setFlag k c) :=
  ((setFlag_writesOnly hF s f a).trans (setFlag_writesOnly hF _ g b)).trans (setFlag_writesOnly hF _ k c)

theorem setFlags_writesOnly {rs : List Reg8} (hF : .F ∈ rs) (s : State) (z n h c : Bool) :
    WritesOnly rs s (s.setFlags z n h c) :=
  (threeFlags_writesOnly hF s _ _ _ _ _ _).trans (setFlag_writesOnly hF _ .C c)

/-- The frame of an instruction whose handler writes registers alone, once the bus is `b`. -/
theorem complete_writesOnly_onBus {rs : List Reg8} {b : Bus} {len : Nat} (base : Nat) {h : State → State} {s : State}
    (hl : len ≤ 3) (hh : WritesOnly rs { s.fetched len with bus := b } (h (s.fetched len))) :
    OnlyReg8 rs s (complete len base h s) ∧ Advances len base s (complete len base h s) :=
  ⟨complete_onlyReg8 rs len base h s hh.reg8 hh.sp hh.rest.int hh.rest.fault hh.rest.params hh.rest.inputs,
    complete_advances len base h s hl hh.rest.scratch hh.pc hh.rest.tick⟩

/-- The frame of an instruction whose handler writes registers alone. -/
theorem complete_writesOnly {rs : List Reg8} {len : Nat} (base : Nat) {h : State → State} {s : State} (hl : len ≤ 3)
    (hh : WritesOnly rs (s.fetched len) (h (s.fetched len))) :
    OnlyReg8 rs s (complete len base h s) ∧ KeepsBytesOutside [] s (complete len base h s) ∧
      Accesses [] s (complete len base h s) ∧ Advances len base s (complete len base h s) := by
  obtain ⟨frame, advance⟩ := complete_writesOnly_onBus (b := s.bus) base hl hh
  obtain ⟨accesses, bytes⟩ := complete_noAccess len base h s hh.rest.bus
  exact ⟨frame, bytes, accesses, advance⟩

/-- The frame of an instruction whose handler reads the byte at `a` and then writes registers alone. -/
theorem complete_writesOnly_read {rs : List Reg8} {a : Word} {len : Nat} (base : Nat) {h : State → State} {s : State}
    (hl : len ≤ 3) (hh : WritesOnly rs ((s.fetched len).memRead a).2 (h (s.fetched len))) :
    OnlyReg8 rs s (complete len base h s) ∧ KeepsBytesOutside [] s (complete len base h s) ∧
      Accesses [.read a (s.readByte a)] s (complete len base h s) ∧ Advances len base s (complete len base h s) := by
  obtain ⟨frame, advance⟩ := complete_writesOnly_onBus (b := s.bus.afterRead a) base hl hh
  obtain ⟨accesses, bytes⟩ := complete_reads a len base h s hh.rest.bus
  exact ⟨frame, bytes, accesses, advance⟩

/-! ## What an ALU operation leaves in A and F (42_alu8.md R210, R218, R219) -/

/-- F as an ALU function's four flags make it. -/
def AluResult.toF (r : AluResult) : Byte := flagByte r.z r.n r.h r.c

/-- A after the operation: its result, but what A held for CP. -/
def AluOp.newA (op : AluOp) (a b : Byte) (cin : Bool) : Byte :=
  match op with
  | .cp => a
  | _ => (op.eval a b cin).res

/-- `t` has in A and F what the operation makes of A, C and the operand `b` in `s`. -/
def AluEffect (op : AluOp) (b : Byte) (s t : State) : Prop :=
  t.r8 .A = op.newA (s.r8 .A) b (s.flag .C) ∧ t.r8 .F = (op.eval (s.r8 .A) b (s.flag .C)).toF

theorem aluWrite_effect (op : AluOp) (b : Byte) (s : State) : AluEffect op b s (aluWrite op b s) := by
  refine ⟨?_, F_setFlags ..⟩
  cases op <;> simp [aluWrite, AluOp.newA]

theorem aluWrite_writesOnly (op : AluOp) (b : Byte) (s : State) : WritesOnly [.A, .F] s (aluWrite op b s) := by
  have flags (u : State) (z n h c : Bool) : WritesOnly [.A, .F] u (u.setFlags z n h c) :=
    setFlags_writesOnly (by decide) u z n h c
  cases op
  case cp => exact flags s _ _ _ _
  all_goals exact (setR8_writesOnly (by decide) s _).trans (flags _ _ _ _ _)

/-- Completing an instruction leaves A and F as its handler did. -/
theorem AluEffect.complete {op : AluOp} {b : Byte} {len base : Nat} {h : State → State} {s : State}
    (e : AluEffect op b s (h (s.fetched len))) : AluEffect op b s (complete len base h s) := by
  unfold AluEffect
  rw [r8_complete, r8_complete]
  exact e

/-! ## The three encodings of each ALU operation -/

/-- The rows of the ALU operation field's table (30_encoding.md R110). -/
inductive AluField : BitVec 3 → AluOp → Prop
  | add : AluField 0 .add
  | adc : AluField 1 .adc
  | sub : AluField 2 .sub
  | sbc : AluField 3 .sbc
  | and : AluField 4 .and
  | xor : AluField 5 .xor
  | or : AluField 6 .or
  | cp : AluField 7 .cp

theorem aluReg_form {o z : BitVec 3} {op : AluOp} {r : Reg8} (ho : AluField o op) (hz : RegField z r) :
    ∃ i, (∀ rest, decode ((0b10#2 ++ o ++ z) :: rest) = .ok (i, rest)) ∧ ∀ s, exec i s = done 1 4 (aluReg op r) s := by
  refine ⟨_, decode_of_P1 (formatOf_block10 o z), fun s => ?_⟩
  cases ho <;> cases hz <;> rfl

theorem aluAtHL_form {o : BitVec 3} {op : AluOp} (ho : AluField o op) :
    ∃ i, (∀ rest, decode ((0b10#2 ++ o ++ 0b110#3) :: rest) = .ok (i, rest)) ∧
      ∀ s, exec i s = done 1 8 (aluAtHL op) s := by
  refine ⟨_, decode_of_P1 (formatOf_block10 o 0b110), fun s => ?_⟩
  cases ho <;> rfl

theorem aluImm_form {o : BitVec 3} {op : AluOp} (ho : AluField o op) (n : Byte) :
    ∃ i, (∀ rest, decode ((0b11#2 ++ o ++ 0b110#3) :: n :: rest) = .ok (i, rest)) ∧
      ∀ s, exec i s = done 2 8 (aluImm op n) s := by
  refine ⟨_, decode_of_P2 (formatOf_block11_column110 o) n, fun s => ?_⟩
  cases ho <;> rfl

/-- All three encodings run `aluWrite`, so a claim about them is a claim about what the operation leaves in A and F. -/
theorem aluForms_of_aluEffect {o : BitVec 3} {op : AluOp} {effect : Byte → State → State → Prop} (ho : AluField o op)
    (he : ∀ b s t, AluEffect op b s t → effect b s t) : AluForms o effect := by
  refine ⟨fun z r rest s hz => ?register, fun rest s => ?memory, fun n rest s => ?immediate⟩
  case register =>
    obtain ⟨i, hdec, hexec⟩ := aluReg_form ho (regField_of_ofField hz)
    exact ⟨i, _, hdec rest, hexec s, he _ _ _ (aluWrite_effect op (s.r8 r) (s.fetched 1)).complete,
      complete_writesOnly 4 (by decide) (aluWrite_writesOnly op _ _)⟩
  case memory =>
    obtain ⟨i, hdec, hexec⟩ := aluAtHL_form ho
    exact ⟨i, _, hdec rest, hexec s,
      he _ _ _ (aluWrite_effect op (s.readByte s.regs.hl) ((s.fetched 1).memRead s.regs.hl).2).complete,
      complete_writesOnly_read 8 (by decide) (aluWrite_writesOnly op _ _)⟩
  case immediate =>
    obtain ⟨i, hdec, hexec⟩ := aluImm_form ho n
    exact ⟨i, _, hdec rest, hexec s, he _ _ _ (aluWrite_effect op n (s.fetched 2)).complete,
      complete_writesOnly 8 (by decide) (aluWrite_writesOnly op _ _)⟩

/-! ## The ALU functions as unbounded sums and differences (42_alu8.md R211 to R214) -/

theorem aluAdd_res (a b : Byte) : (aluAdd a b).res = BitVec.ofNat 8 (a.toNat + b.toNat) := by
  simp [aluAdd, BitVec.ofNat_add]

theorem aluAdd_toF (a b : Byte) :
    (aluAdd a b).toF = flagByte ((aluAdd a b).res == 0) false (decide (a.toNat % 16 + b.toNat % 16 > 15))
      (decide (a.toNat + b.toNat > 255)) := by
  simp only [AluResult.toF, aluAdd, lowNibble_eq_mod]

theorem aluAdc_res (a b : Byte) (cin : Bool) :
    (aluAdc a b cin).res = BitVec.ofNat 8 (a.toNat + b.toNat + cin.toNat) := by
  simp [aluAdc, BitVec.ofNat_add, boolToByte_eq_ofNat]

theorem aluAdc_toF (a b : Byte) (cin : Bool) :
    (aluAdc a b cin).toF = flagByte ((aluAdc a b cin).res == 0) false
      (decide (a.toNat % 16 + b.toNat % 16 + cin.toNat > 15)) (decide (a.toNat + b.toNat + cin.toNat > 255)) := by
  simp only [AluResult.toF, aluAdc, lowNibble_eq_mod]

theorem aluSub_res (a b : Byte) : (aluSub a b).res = BitVec.ofInt 8 (a.toNat - b.toNat) := by
  rw [ofInt_sub, ofInt_toNat, ofInt_toNat]
  rfl

theorem aluSub_toF (a b : Byte) :
    (aluSub a b).toF = flagByte ((aluSub a b).res == 0) true (decide (a.toNat % 16 < b.toNat % 16))
      (decide (b.toNat > a.toNat)) := by
  simp only [AluResult.toF, aluSub, lowNibble_eq_mod]

/-- SUB's Z says that the operands are equal (R218). -/
theorem aluSub_res_beq_zero (a b : Byte) : ((aluSub a b).res == 0) = decide (a = b) := by
  rw [Bool.beq_eq_decide_eq]
  exact decide_eq_decide.mpr sub_eq_zero

theorem aluSbc_res (a b : Byte) (cin : Bool) :
    (aluSbc a b cin).res = BitVec.ofInt 8 (a.toNat - b.toNat - cin.toNat) := by
  rw [ofInt_sub, ofInt_sub, ofInt_toNat, ofInt_toNat, BitVec.ofInt_natCast, ← boolToByte_eq_ofNat]
  rfl

theorem aluSbc_toF (a b : Byte) (cin : Bool) :
    (aluSbc a b cin).toF = flagByte ((aluSbc a b cin).res == 0) true
      (decide (a.toNat % 16 < b.toNat % 16 + cin.toNat)) (decide (b.toNat + cin.toNat > a.toNat)) := by
  simp only [AluResult.toF, aluSbc, lowNibble_eq_mod]

/-! ## INC r, DEC r and the instructions on A and F alone (42_alu8.md R244, R246, R248 to R251) -/

theorem incReg_form {y : BitVec 3} {r : Reg8} (hy : RegField y r) :
    ∃ i, (∀ rest, decode ((0b00#2 ++ y ++ 0b100#3) :: rest) = .ok (i, rest)) ∧
      ∀ s, exec i s = done 1 4 (incOperand (.reg r)) s := by
  refine ⟨_, decode_of_P1 (formatOf_column100 y), fun s => ?_⟩
  cases hy <;> rfl

theorem decReg_form {y : BitVec 3} {r : Reg8} (hy : RegField y r) :
    ∃ i, (∀ rest, decode ((0b00#2 ++ y ++ 0b101#3) :: rest) = .ok (i, rest)) ∧
      ∀ s, exec i s = done 1 4 (decOperand (.reg r)) s := by
  refine ⟨_, decode_of_P1 (formatOf_column101 y), fun s => ?_⟩
  cases hy <;> rfl

/-- A register and then Z, N and H, as INC r and DEC r write them. -/
theorem setR8_setFlagsZNH_writesOnly (s : State) (r : Reg8) (v : Byte) (z n h : Bool) :
    WritesOnly [r, .F] s ((((s.setR8 r v).setFlag .Z z).setFlag .N n).setFlag .H h) :=
  (setR8_writesOnly (by simp) s v).trans (threeFlags_writesOnly (by simp) _ _ _ _ _ _ _)

theorem r8_incReg (s : State) {r : Reg8} (hr : r ≠ .F) :
    (incOperand (.reg r) s).r8 r = BitVec.ofNat 8 ((s.r8 r).toNat + 1) := by
  simp [incOperand, State.readOperand, State.writeOperand, hr, BitVec.ofNat_add]

theorem F_incReg (s : State) {r : Reg8} (hr : r ≠ .F) :
    (incOperand (.reg r) s).r8 .F =
      flagByte ((incOperand (.reg r) s).r8 r == 0) false (decide ((s.r8 r).toNat % 16 = 15)) (s.flag .C) := by
  simp [incOperand, State.readOperand, State.writeOperand, hr, F_setFlag, lowNibble_beq]

theorem r8_decReg (s : State) {r : Reg8} (hr : r ≠ .F) :
    (decOperand (.reg r) s).r8 r = BitVec.ofInt 8 ((s.r8 r).toNat - 1) := by
  rw [ofInt_sub, ofInt_toNat]
  simp [decOperand, State.readOperand, State.writeOperand, hr]

theorem F_decReg (s : State) {r : Reg8} (hr : r ≠ .F) :
    (decOperand (.reg r) s).r8 .F =
      flagByte ((decOperand (.reg r) s).r8 r == 0) true (decide ((s.r8 r).toNat % 16 = 0)) (s.flag .C) := by
  simp [decOperand, State.readOperand, State.writeOperand, hr, F_setFlag, lowNibble_beq]

theorem A_complementA (s : State) : (complementA s).r8 .A = ~~~(s.r8 .A) := by simp [complementA]

theorem F_complementA (s : State) : (complementA s).r8 .F = flagByte (s.flag .Z) true true (s.flag .C) := by
  simp [complementA, F_setFlag]

theorem complementA_writesOnly (s : State) : WritesOnly [.A, .F] s (complementA s) :=
  ((setR8_writesOnly (by decide) s _).trans (setFlag_writesOnly (by decide) _ _ _)).trans
    (setFlag_writesOnly (by decide) _ _ _)

theorem F_setCarry (s : State) : (setCarry s).r8 .F = flagByte (s.flag .Z) false false true := by
  simp [setCarry, F_setFlag]

theorem F_complementCarry (s : State) :
    (complementCarry s).r8 .F = flagByte (s.flag .Z) false false (!s.flag .C) := by
  simp [complementCarry, F_setFlag]

/-! ## Decimal adjust (42_alu8.md R248) -/

theorem A_decimalAdjust (s : State) :
    (decimalAdjust s).r8 .A = (daaAdjust (s.r8 .A) (s.flag .N) (s.flag .H) (s.flag .C)).1 := by
  simp [decimalAdjust]

theorem F_decimalAdjust (s : State) :
    (decimalAdjust s).r8 .F = flagByte ((decimalAdjust s).r8 .A == 0) (s.flag .N) false
      (daaAdjust (s.r8 .A) (s.flag .N) (s.flag .H) (s.flag .C)).2 := by
  simp [decimalAdjust, F_setFlag]

theorem decimalAdjust_writesOnly (s : State) : WritesOnly [.A, .F] s (decimalAdjust s) :=
  (setR8_writesOnly (by decide) s _).trans (threeFlags_writesOnly (by decide) _ _ _ _ _ _ _)

/-- The high correction leaves the low nibble as it was. -/
theorem lowNibble_add_0x60 (a : Byte) : lowNibble (a + 0x60#8) = lowNibble a := by
  simp only [lowNibble_eq_mod, BitVec.toNat_add, BitVec.toNat_ofNat]
  omega

/-- After a subtraction the corrections are taken off where C and H are set. -/
theorem daaAdjust_subtraction (a : Byte) (h c : Bool) :
    daaAdjust a true h c = (BitVec.ofInt 8 (a.toNat - 0x60 * c.toNat - 0x06 * h.toNat), c) := by
  rw [ofInt_sub, ofInt_sub, ofInt_toNat]
  cases c <;> cases h <;> simp [daaAdjust]

/-- After an addition the corrections are added where C and H are set, or where the digits are above 9. -/
theorem daaAdjust_addition (a : Byte) (h c high low : Bool) (hhigh : high = (c || decide (a.toNat > 0x99)))
    (hlow : low = (h || decide (a.toNat % 16 > 0x09))) :
    daaAdjust a false h c = (BitVec.ofNat 8 (a.toNat + 0x60 * high.toNat + 0x06 * low.toNat), high) := by
  have digit : (h || decide (lowNibble (if high then a + 0x60 else a) > 0x09)) = low := by
    rw [hlow, ← lowNibble_eq_mod]
    cases high <;> simp [lowNibble_add_0x60]
  have run : daaAdjust a false h c =
      (if low then (if high then a + 0x60 else a) + 0x06 else if high then a + 0x60 else a, high) := by
    rw [← digit, hhigh]
    rfl
  rw [run, BitVec.ofNat_add, BitVec.ofNat_add]
  cases high <;> cases low <;> simp

/-! ## The statements -/

/-- Settles O36: ADD's and ADC's forms run `aluAdd` and `aluAdc`, which are unbounded sums cut to a byte. -/
theorem addAndAddWithCarry : Obligations.AddAndAddWithCarry := by
  refine ⟨aluForms_of_aluEffect .add ?add, aluForms_of_aluEffect .adc ?adc⟩
  case add =>
    rintro b s t ⟨hA, hF⟩
    rw [hA, hF]
    exact ⟨aluAdd_res _ _, aluAdd_toF _ _⟩
  case adc =>
    rintro b s t ⟨hA, hF⟩
    rw [hA, hF]
    exact ⟨aluAdc_res _ _ _, aluAdc_toF _ _ _⟩

/-- Settles O37: SUB's and SBC's forms run `aluSub` and `aluSbc`, which are unbounded differences cut to a byte. -/
theorem subtractAndSubtractWithCarry : Obligations.SubtractAndSubtractWithCarry := by
  refine ⟨aluForms_of_aluEffect .sub ?sub, aluForms_of_aluEffect .sbc ?sbc⟩
  case sub =>
    rintro b s t ⟨hA, hF⟩
    rw [hA, hF]
    exact ⟨aluSub_res _ _, aluSub_toF _ _⟩
  case sbc =>
    rintro b s t ⟨hA, hF⟩
    rw [hA, hF]
    exact ⟨aluSbc_res _ _ _, aluSbc_toF _ _ _⟩

/-- Settles O38: the three operations act on each bit of A by itself. -/
theorem bitwiseLogic : Obligations.BitwiseLogic := by
  refine ⟨aluForms_of_aluEffect .and ?and, aluForms_of_aluEffect .xor ?xor, aluForms_of_aluEffect .or ?or⟩
  case and =>
    rintro b s t ⟨hA, hF⟩
    rw [hA, hF]
    exact ⟨fun j _ => BitVec.getLsbD_and, rfl⟩
  case xor =>
    rintro b s t ⟨hA, hF⟩
    rw [hA, hF]
    exact ⟨fun j _ => BitVec.getLsbD_xor, rfl⟩
  case or =>
    rintro b s t ⟨hA, hF⟩
    rw [hA, hF]
    exact ⟨fun j _ => BitVec.getLsbD_or, rfl⟩

/-- Settles O39: CP's forms run `aluSub` for its flags, and its result is 0 exactly for equal operands. -/
theorem compareSetsFlagsOnly : Obligations.CompareSetsFlagsOnly := by
  refine aluForms_of_aluEffect .cp ?_
  rintro b s t ⟨hA, hF⟩
  rw [hA, hF, ← aluSub_res_beq_zero]
  exact ⟨rfl, aluSub_toF _ _⟩

/-- Settles O40: the seven register fields run `incOperand` and `decOperand`, which write one register, Z, N and H. -/
theorem incrementAndDecrementRegister : Obligations.IncrementAndDecrementRegister := by
  intro y r rest s hy
  have hr := ofField_ne_F hy
  refine ⟨?inc, ?dec⟩
  case inc =>
    obtain ⟨i, hdec, hexec⟩ := incReg_form (regField_of_ofField hy)
    refine ⟨i, _, hdec rest, hexec s, ?_, ?_,
      complete_writesOnly 4 (by decide) (setR8_setFlagsZNH_writesOnly _ r _ _ _ _)⟩
    · rw [r8_complete, r8_incReg _ hr, r8_fetched]
    · rw [r8_complete, r8_complete, F_incReg _ hr, r8_fetched, fetched_flag]
  case dec =>
    obtain ⟨i, hdec, hexec⟩ := decReg_form (regField_of_ofField hy)
    refine ⟨i, _, hdec rest, hexec s, ?_, ?_,
      complete_writesOnly 4 (by decide) (setR8_setFlagsZNH_writesOnly _ r _ _ _ _)⟩
    · rw [r8_complete, r8_decReg _ hr, r8_fetched]
    · rw [r8_complete, r8_complete, F_decReg _ hr, r8_fetched, fetched_flag]

/-- Settles O42 (`decimalAdjust` itself names the handler): `daaAdjust` adds or takes off the two corrections, as N
says. -/
theorem decimalAdjust_corrections : Obligations.DecimalAdjust := by
  intro rest s a high low ha hhigh hlow
  subst ha
  have run : daaAdjust (s.r8 .A) (s.flag .N) (s.flag .H) (s.flag .C) =
      (if s.flag .N then BitVec.ofInt 8 ((s.r8 .A).toNat - 0x60 * high.toNat - 0x06 * low.toNat)
        else BitVec.ofNat 8 ((s.r8 .A).toNat + 0x60 * high.toNat + 0x06 * low.toNat), high) := by
    cases hN : s.flag .N
    case false => exact daaAdjust_addition _ _ _ _ _ (by simpa [hN] using hhigh) (by simpa [hN] using hlow)
    case true =>
      obtain rfl : high = s.flag .C := by simpa [hN] using hhigh
      obtain rfl : low = s.flag .H := by simpa [hN] using hlow
      exact daaAdjust_subtraction _ _ _
  refine ⟨.daa, _, decode_of_P1 (by decide) rest, rfl, ?_, ?_,
    complete_writesOnly 4 (by decide) (decimalAdjust_writesOnly _)⟩
  · rw [r8_complete, A_decimalAdjust]
    exact congrArg Prod.fst run
  · rw [r8_complete, r8_complete, F_decimalAdjust]
    exact congrArg (flagByte _ _ _) (congrArg Prod.snd run)

/-- Settles O44: each of the three handlers writes A and flags, or flags alone, and says what F is. -/
theorem complementAndCarryFlag : Obligations.ComplementAndCarryFlag := by
  refine fun rest s => ⟨⟨.cpl, _, decode_of_P1 (by decide) rest, rfl, fun j hj => ?bits, ?cplF, ?cplFrame⟩,
    ⟨.scf, _, decode_of_P1 (by decide) rest, rfl, ?scfF, ?scfFrame⟩,
    ⟨.ccf, _, decode_of_P1 (by decide) rest, rfl, ?ccfF, ?ccfFrame⟩⟩
  case bits =>
    rw [r8_complete, A_complementA, BitVec.getLsbD_not, r8_fetched]
    simp [hj]
  case cplF => exact (r8_complete ..).trans (F_complementA _)
  case scfF => exact (r8_complete ..).trans (F_setCarry _)
  case ccfF => exact (r8_complete ..).trans (F_complementCarry _)
  case cplFrame => exact complete_writesOnly 4 (by decide) (complementA_writesOnly _)
  case scfFrame | ccfFrame =>
    exact complete_writesOnly 4 (by decide) (threeFlags_writesOnly (by decide) _ _ _ _ _ _ _)

end Sys2Proof.Machine
end

section
/-! 16-bit arithmetic (43_alu16.md R261 to R263): the opcodes' format, words as unbounded sums and differences, what ADD
HL,rr leaves in HL and F, and the family's statements. -/

namespace Sys2Proof

/-- The opcodes `00 pp 1001`, `00 pp 0011` and `00 pp 1011` have no immediate. -/
theorem formatOf_pairArithmetic :
    ∀ c ∈ [0b1001#4, 0b0011#4, 0b1011#4], ∀ p : BitVec 2, formatOf (0b00#2 ++ p ++ c) = .P1 := by decide

end Sys2Proof

namespace Sys2Proof.Machine

/-! ## Words as unbounded numbers (00_scope.md R11, R12) -/

theorem incPair_eq (rr : Reg16) (s : State) :
    incPair rr s = s.setR16 rr (BitVec.ofNat 16 ((s.r16 rr).toNat + 1)) := by
  simp [incPair, BitVec.ofNat_add]

theorem decPair_eq (rr : Reg16) (s : State) :
    decPair rr s = s.setR16 rr (BitVec.ofInt 16 ((s.r16 rr).toNat - 1)) := by
  rw [ofInt_sub, ofInt_toNat]
  rfl

theorem add16H_eq_mod (a b : Word) : add16H a b = decide (a.toNat % 4096 + b.toNat % 4096 > 4095) := by
  have low12 (v : Word) : (v &&& 0x0FFF).toNat = v.toNat % 4096 := Nat.and_two_pow_sub_one_eq_mod v.toNat 12
  rw [add16H, low12, low12]

/-! ## ADD HL,rr: what it leaves in HL and F, and its frame -/

theorem setR16_writesOnly {rs : List Reg8} {rr : Reg16} (hviews : rr.views ⊆ rs) (hsp : rr ≠ .SP) (hpc : rr ≠ .PC)
    (s : State) (v : Word) : WritesOnly rs s (s.setR16 rr v) :=
  ⟨setR16_onlyRegisters s rr v, fun q hq => r8_setR16_other s rr q v fun h => hq (hviews h), by simp [hsp],
    by simp [hpc]⟩

theorem addHL_writesOnly (rr : Reg16) (s : State) : WritesOnly [.H, .L, .F] s (addHL rr s) :=
  (setR16_writesOnly (rr := .HL) (by decide) (by decide) (by decide) s _).trans
    (threeFlags_writesOnly (by decide) _ _ _ _ _ _ _)

/-- Flags are written through F alone, so HL keeps the sum. -/
theorem hl_addHL (rr : Reg16) (s : State) :
    (addHL rr s).r16 .HL = BitVec.ofNat 16 (s.regs.hl.toNat + (s.r16 rr).toNat) := by
  rw [BitVec.ofNat_add, BitVec.ofNat_toNat, BitVec.ofNat_toNat, BitVec.setWidth_eq, BitVec.setWidth_eq]
  rfl

theorem F_addHL (rr : Reg16) (s : State) :
    (addHL rr s).r8 .F = flagByte (s.flag .Z) false
      (decide (s.regs.hl.toNat % 4096 + (s.r16 rr).toNat % 4096 > 4095))
      (decide (s.regs.hl.toNat + (s.r16 rr).toNat > 65535)) := by
  have keepsZ (v : Word) : (s.setR16 .HL v).flag .Z = s.flag .Z := rfl
  rw [← add16H_eq_mod]
  simp [addHL, F_setFlag, keepsZ, add16C]

/-! ## What each opcode of the family decodes to and executes -/

theorem addHL_form {p : BitVec 2} {rr : Reg16} (hp : PairField p rr) :
    ∃ i, (∀ rest, decode ((0b00#2 ++ p ++ 0b1001#4) :: rest) = .ok (i, rest)) ∧
      ∀ s, exec i s = done 1 8 (addHL rr) s := by
  refine ⟨_, decode_of_P1 (formatOf_pairArithmetic _ (by decide) p), fun s => ?_⟩
  cases hp <;> rfl

theorem incPair_form {p : BitVec 2} {rr : Reg16} (hp : PairField p rr) :
    ∃ i, (∀ rest, decode ((0b00#2 ++ p ++ 0b0011#4) :: rest) = .ok (i, rest)) ∧
      ∀ s, exec i s = done 1 8 (incPair rr) s := by
  refine ⟨_, decode_of_P1 (formatOf_pairArithmetic _ (by decide) p), fun s => ?_⟩
  cases hp <;> rfl

theorem decPair_form {p : BitVec 2} {rr : Reg16} (hp : PairField p rr) :
    ∃ i, (∀ rest, decode ((0b00#2 ++ p ++ 0b1011#4) :: rest) = .ok (i, rest)) ∧
      ∀ s, exec i s = done 1 8 (decPair rr) s := by
  refine ⟨_, decode_of_P1 (formatOf_pairArithmetic _ (by decide) p), fun s => ?_⟩
  cases hp <;> rfl

/-! ## The statements -/

/-- Settles O45: the four pair fields run `addHL`, which writes HL, N, H and C from HL and the pair of before. -/
theorem addPairToHL : Obligations.AddPairToHL := by
  rintro p _ rest s rfl
  obtain ⟨i, hdec, hexec⟩ := addHL_form (pairField_pairOfField p)
  refine ⟨i, _, hdec rest, hexec s, ?sum, ?flags, complete_writesOnly 8 (by decide) (addHL_writesOnly _ _)⟩
  case sum => exact (r16_complete (q := .HL) _ _ _ _ (by decide)).trans (hl_addHL _ _)
  case flags => exact (r8_complete ..).trans (F_addHL _ _)

/-- Settles O46: the four pair fields run `incPair` and `decPair`, each of which sets one pair. -/
theorem incrementAndDecrementPair : Obligations.IncrementAndDecrementPair := by
  intro p rest s
  have hp := pairField_pairOfField p
  refine ⟨?inc, ?dec⟩
  case inc =>
    obtain ⟨i, hdec, hexec⟩ := incPair_form hp
    exact ⟨i, _, hdec rest, hexec s, complete_setR16 8 hp.ne_AF hp.ne_PC (by decide) (incPair_eq _ _)⟩
  case dec =>
    obtain ⟨i, hdec, hexec⟩ := decPair_form hp
    exact ⟨i, _, hdec rest, hexec s, complete_setR16 8 hp.ne_AF hp.ne_PC (by decide) (decPair_eq _ _)⟩

end Sys2Proof.Machine
end

section
/-! Rotates of A and BIT (44_rotate_shift_bit.md R280 to R283, R301, R302): the decoder on the family's opcodes, shifted
bytes as numbers, what the short rotates leave in A and F, what BIT leaves in F, and the family's statements. -/

namespace Sys2Proof

/-! ## The decoder on the family's opcodes (30_encoding.md R100, R103, R117) -/

/-- The opcodes `000 yy 111` have no immediate. -/
theorem formatOf_shortRotate : ∀ y : BitVec 2, formatOf (0b000#3 ++ y ++ 0b111#3) = .P1 := by decide

/-- The lead byte 0xCB hands the next byte to the CB map. -/
theorem decode_of_CB2 (sub : Byte) (rest : List Byte) : decode (0xCB :: sub :: rest) = .ok (ofCb sub, rest) := rfl

/-! ## Shifted bytes as numbers (00_scope.md R11, R12) -/

theorem boolToByte_toNat (b : Bool) : (boolToByte b).toNat = b.toNat := by cases b <;> rfl

/-- A left shift leaves bit 0 free for the bit that comes in. -/
theorem shiftLeft_or_bit_toNat (v : Byte) (b : Bool) :
    (v <<< 1 ||| boolToByte b).toNat = 2 * v.toNat % 256 + b.toNat := by
  have shifted : (v <<< 1).toNat = (v.toNat % 2 ^ 7) <<< 1 := by
    rw [BitVec.toNat_shiftLeft, Nat.shiftLeft_eq, Nat.shiftLeft_eq]
    omega
  rw [BitVec.toNat_or, shifted, boolToByte_toNat, ← Nat.shiftLeft_add_eq_or_of_lt b.toNat_lt, Nat.shiftLeft_eq]
  omega

/-- A right shift leaves bit 7 free for the bit that comes in. -/
theorem shiftRight_or_bit_toNat (v : Byte) (b : Bool) :
    (v >>> 1 ||| boolToByte b <<< 7).toNat = v.toNat / 2 + 128 * b.toNat := by
  have low : v.toNat >>> 1 < 2 ^ 7 := by
    have hv := v.isLt
    omega
  have high : (boolToByte b <<< 7).toNat = b.toNat <<< 7 := by cases b <;> rfl
  rw [BitVec.toNat_or, BitVec.toNat_ushiftRight, high, Nat.or_comm, ← Nat.shiftLeft_add_eq_or_of_lt low,
    Nat.shiftLeft_eq]
  omega

theorem getLsbD_seven_eq_decide (v : Byte) : v.getLsbD 7 = decide (v.toNat ≥ 128) := BitVec.msb_eq_decide v

theorem getLsbD_zero_eq_decide (v : Byte) : v.getLsbD 0 = decide (v.toNat % 2 = 1) := Nat.testBit_zero v.toNat

theorem toNat_getLsbD_seven (v : Byte) : (v.getLsbD 7).toNat = v.toNat / 128 := by
  have hv := v.isLt
  have bit : (v.getLsbD 7).toNat = v.toNat / 2 ^ 7 % 2 := Nat.toNat_testBit v.toNat 7
  omega

theorem toNat_getLsbD_zero (v : Byte) : (v.getLsbD 0).toNat = v.toNat % 2 := by
  have bit : (v.getLsbD 0).toNat = v.toNat / 2 ^ 0 % 2 := Nat.toNat_testBit v.toNat 0
  omega

end Sys2Proof

namespace Sys2Proof.Machine

/-! ## The rotates as numbers (44_rotate_shift_bit.md R280 to R283) -/

theorem rlc_toNat (v : Byte) (cin : Bool) :
    (ShiftOp.rlc.eval v cin).1.toNat = 2 * v.toNat % 256 + v.toNat / 128 := by
  rw [← toNat_getLsbD_seven]
  exact shiftLeft_or_bit_toNat v _

theorem rrc_toNat (v : Byte) (cin : Bool) :
    (ShiftOp.rrc.eval v cin).1.toNat = v.toNat / 2 + 128 * (v.toNat % 2) := by
  rw [← toNat_getLsbD_zero]
  exact shiftRight_or_bit_toNat v _

theorem rl_toNat (v : Byte) (cin : Bool) : (ShiftOp.rl.eval v cin).1.toNat = 2 * v.toNat % 256 + cin.toNat :=
  shiftLeft_or_bit_toNat v cin

theorem rr_toNat (v : Byte) (cin : Bool) : (ShiftOp.rr.eval v cin).1.toNat = v.toNat / 2 + 128 * cin.toNat :=
  shiftRight_or_bit_toNat v cin

/-! ## The short rotates of A -/

/-- The four rows of the rotate and shift field's table (30_encoding.md R111) that have a short form on A. -/
inductive RotateField : BitVec 2 → ShiftOp → Prop
  | rlc : RotateField 0 .rlc
  | rrc : RotateField 1 .rrc
  | rl : RotateField 2 .rl
  | rr : RotateField 3 .rr

theorem rotateField_ofField (y : BitVec 2) : RotateField y (ShiftOp.ofField (0b0#1 ++ y)) := by
  fin_cases y <;> constructor

theorem rotateA_form {y : BitVec 2} {op : ShiftOp} (hy : RotateField y op) :
    ∃ i, (∀ rest, decode ((0b000#3 ++ y ++ 0b111#3) :: rest) = .ok (i, rest)) ∧
      ∀ s, exec i s = done 1 4 (rotateA op) s := by
  refine ⟨_, decode_of_P1 (formatOf_shortRotate y), fun s => ?_⟩
  cases hy <;> rfl

theorem A_rotateA (op : ShiftOp) (s : State) : (rotateA op s).r8 .A = (op.eval (s.r8 .A) (s.flag .C)).1 := by
  simp [rotateA]

theorem F_rotateA (op : ShiftOp) (s : State) :
    (rotateA op s).r8 .F = flagByte false false false (op.eval (s.r8 .A) (s.flag .C)).2 :=
  F_setFlags ..

theorem rotateA_writesOnly (op : ShiftOp) (s : State) : WritesOnly [.A, .F] s (rotateA op s) :=
  (setR8_writesOnly (by decide) s _).trans (setFlags_writesOnly (by decide) _ _ _ _ _)

/-! ## BIT -/

theorem bitTestReg_form (b : BitVec 3) {z : BitVec 3} {r : Reg8} (hz : RegField z r) :
    ∃ i, (∀ rest, decode (0xCB :: (0b01#2 ++ b ++ z) :: rest) = .ok (i, rest)) ∧
      ∀ s, exec i s = done 2 8 (bitTest b.toNat (.reg r)) s := by
  refine ⟨_, decode_of_CB2 _, fun s => ?_⟩
  fin_cases b <;> cases hz <;> rfl

theorem bitTestAtHL_form (b : BitVec 3) :
    ∃ i, (∀ rest, decode (0xCB :: (0b01#2 ++ b ++ 0b110#3) :: rest) = .ok (i, rest)) ∧
      ∀ s, exec i s = done 2 12 (bitTest b.toNat .atHL) s := by
  refine ⟨_, decode_of_CB2 _, fun s => ?_⟩
  fin_cases b <;> rfl

@[simp] theorem readOperand_flag (s : State) (o : Operand8) (f : Flag) : (s.readOperand o).2.flag f = s.flag f := by
  cases o <;> rfl

theorem F_bitTest (n : Nat) (o : Operand8) (s : State) :
    (bitTest n o s).r8 .F = flagByte (!(s.readOperand o).1.getLsbD n) false true (s.flag .C) := by
  simp [bitTest, F_setFlag]

/-- BIT writes nothing but flags once it has read its operand. -/
theorem bitTest_writesOnly (n : Nat) (o : Operand8) (s : State) : WritesOnly [.F] (s.readOperand o).2 (bitTest n o s) :=
  threeFlags_writesOnly (by decide) _ _ _ _ _ _ _

/-! ## The statements -/

/-- Settles O47: the four rows run `rotateA`, which writes A and all four flags; each rotate is a shift with one bit put
in the place it leaves free. -/
theorem rotateAccumulator : Obligations.RotateAccumulator := by
  rintro y _ res _ _ rest s rfl rfl rfl hres
  obtain ⟨op, hy⟩ : ∃ op, RotateField y op := ⟨_, rotateField_ofField y⟩
  obtain ⟨i, hdec, hexec⟩ := rotateA_form hy
  refine ⟨i, _, hdec rest, hexec s, ?result, ?flags, complete_writesOnly 4 (by decide) (rotateA_writesOnly _ _)⟩
  case result =>
    rw [r8_complete, A_rotateA, hres]
    cases hy
    case rlc => exact rlc_toNat _ _
    case rrc => exact rrc_toNat _ _
    case rl => exact rl_toNat _ _
    case rr => exact rr_toNat _ _
  case flags =>
    rw [r8_complete, F_rotateA]
    refine congrArg (flagByte _ _ _) ?_
    cases hy
    case rlc | rl => exact getLsbD_seven_eq_decide _
    case rrc | rr => exact getLsbD_zero_eq_decide _

/-- Settles O51 (`bitTest` itself names the handler): every bit and operand field runs `bitTest`, which reads its operand
and then writes Z, N and H. -/
theorem bitTest_flags : Obligations.BitTest := by
  refine fun b rest s => ⟨fun z r hz => ?register, ?memory⟩
  case register =>
    obtain ⟨i, hdec, hexec⟩ := bitTestReg_form b (regField_of_ofField hz)
    exact ⟨i, _, hdec rest, hexec s, (r8_complete ..).trans (F_bitTest _ _ _),
      complete_writesOnly 8 (by decide) (bitTest_writesOnly _ (.reg r) _)⟩
  case memory =>
    obtain ⟨i, hdec, hexec⟩ := bitTestAtHL_form b
    exact ⟨i, _, hdec rest, hexec s, (r8_complete ..).trans (F_bitTest _ _ _),
      complete_writesOnly_read 12 (by decide) (bitTest_writesOnly _ .atHL _)⟩

end Sys2Proof.Machine
end

section
/-! Jumps (45_control.md R320 to R325): the opcodes' formats, the condition field as four cases, what a jump does as a
whole instruction, the wrapping target of JR, and the family's statements. -/

namespace Sys2Proof

/-- The opcodes `110 cc 010` have a 16-bit immediate. -/
theorem formatOf_conditionalJp : ∀ cc : BitVec 2, formatOf (0b110#3 ++ cc ++ 0b010#3) = .P3 := by decide

/-- The opcodes `001 cc 000` have an 8-bit immediate. -/
theorem formatOf_conditionalJr : ∀ cc : BitVec 2, formatOf (0b001#3 ++ cc ++ 0b000#3) = .P2 := by decide

/-- Sign extension keeps the signed value, so the wrapped sum of words is the unbounded sum modulo 2^16. -/
theorem add_two_add_sext16 (pc : Word) (n : Byte) : pc + 2 + sext16 n = BitVec.ofInt 16 (pc.toNat + 2 + n.toInt) := by
  rw [BitVec.ofInt_add, BitVec.ofInt_add, ofInt_toNat]
  rfl

end Sys2Proof

namespace Sys2Proof.Machine

/-! ## The condition field -/

/-- The four rows of the condition field's table (30_encoding.md R107). -/
inductive CondField : BitVec 2 → Cond → Prop
  | NZ : CondField 0 .NZ
  | Z : CondField 1 .Z
  | NC : CondField 2 .NC
  | C : CondField 3 .C

theorem condField_ofField (cc : BitVec 2) : CondField cc (Cond.ofField cc) := by
  fin_cases cc <;> constructor

theorem cond_eq_conditionHolds {cc : BitVec 2} {c : Cond} (hc : CondField cc c) (s : State) :
    s.cond c = conditionHolds cc s := by
  cases hc
  case NZ | NC => exact (beq_false _).symm
  case Z | C => exact (beq_true _).symm

/-! ## A jump as a whole instruction -/

/-- An instruction whose handler only jumps to `target`, with `bonus` extra cycles. -/
theorem complete_jumpTo {target : Word} {bonus len : Nat} (base : Nat) {h : State → State} {s : State}
    (hh : h (s.fetched len) = ((s.fetched len).jumpTo target).extra bonus) :
    OnlyReg8 [] s (complete len base h s) ∧ KeepsBytesOutside [] s (complete len base h s) ∧
      Accesses [] s (complete len base h s) ∧
      Transfers target len (base + bonus) bonus s (complete len base h s) := by
  obtain ⟨accesses, bytes⟩ := complete_noAccess len base h s (by rw [hh]; simp)
  refine ⟨?frame, bytes, accesses, ?transfer⟩
  case frame => apply complete_onlyReg8 <;> rw [hh] <;> simp
  case transfer => apply complete_transfers <;> rw [hh] <;> simp [Scratch.start]

theorem WritesOnly.refl (rs : List Reg8) (s : State) : WritesOnly rs s s := ⟨.refl s, fun _ _ => rfl, rfl, rfl⟩

/-- An instruction whose handler only jumps to `target`, with `bonus` extra cycles, when its condition holds. -/
theorem complete_whenTaken_jumpTo {cc : BitVec 2} {c : Cond} (hc : CondField cc c) {target : Word} {len : Nat}
    (base bonus : Nat) {h : State → State} {s : State} (hl : len ≤ 3)
    (hh : h (s.fetched len) = whenTaken c bonus (·.jumpTo target) (s.fetched len)) :
    OnlyReg8 [] s (complete len base h s) ∧ KeepsBytesOutside [] s (complete len base h s) ∧
      Accesses [] s (complete len base h s) ∧
      if conditionHolds cc s then Transfers target len (base + bonus) bonus s (complete len base h s)
      else Advances len base s (complete len base h s) := by
  have hcond : (s.fetched len).cond c = conditionHolds cc s := cond_eq_conditionHolds hc (s.fetched len)
  split
  case isTrue taken => exact complete_jumpTo base (by rw [hh, whenTaken, hcond, if_pos taken])
  case isFalse untaken =>
    have unchanged : h (s.fetched len) = s.fetched len := by rw [hh, whenTaken, hcond, if_neg untaken]
    exact complete_writesOnly base hl (by rw [unchanged]; exact .refl [] _)

/-! ## What each conditional jump decodes to and executes -/

theorem conditionalJp_form {cc : BitVec 2} {c : Cond} (hc : CondField cc c) (nn : Word) :
    ∃ i, (∀ rest, decode ((0b110#3 ++ cc ++ 0b010#3) :: lo8 nn :: hi8 nn :: rest) = .ok (i, rest)) ∧
      ∀ s, exec i s = done 3 12 (whenTaken c 4 (jump nn)) s := by
  refine ⟨_, decode_of_P3 (formatOf_conditionalJp cc) nn, fun s => ?_⟩
  cases hc <;> rfl

theorem conditionalJr_form {cc : BitVec 2} {c : Cond} (hc : CondField cc c) (n : Byte) :
    ∃ i, (∀ rest, decode ((0b001#3 ++ cc ++ 0b000#3) :: n :: rest) = .ok (i, rest)) ∧
      ∀ s, exec i s = done 2 8 (whenTaken c 4 (jumpRel n)) s := by
  refine ⟨_, decode_of_P2 (formatOf_conditionalJr cc) n, fun s => ?_⟩
  cases hc <;> rfl

/-! ## The statements -/

/-- Settles O54: JP a16 and JP HL only jump, and the four condition fields jump when they hold. -/
theorem absoluteJumps : Obligations.AbsoluteJumps := by
  refine ⟨fun nn rest s => ?jp, fun cc nn rest s => ?jpWhen, fun rest s => ?jpHL⟩
  case jp => exact ⟨.jpa16 nn, _, decode_of_P3 (by decide) nn rest, rfl, complete_jumpTo (bonus := 0) 16 rfl⟩
  case jpWhen =>
    have hc := condField_ofField cc
    obtain ⟨i, hdec, hexec⟩ := conditionalJp_form hc nn
    exact ⟨i, _, hdec rest, hexec s, complete_whenTaken_jumpTo hc 12 4 (by decide) rfl⟩
  case jpHL => exact ⟨.jpHL, _, decode_of_P1 (by decide) rest, rfl, complete_jumpTo (bonus := 0) 4 rfl⟩

/-- Settles O55: JR e8 only jumps to PC + 2 plus the signed offset, and the four condition fields jump there when they
hold. -/
theorem relativeJumps : Obligations.RelativeJumps := by
  rintro n _ rest s rfl
  rw [← add_two_add_sext16]
  refine ⟨?jr, fun cc => ?jrWhen⟩
  case jr => exact ⟨.jre8 n, _, decode_of_P2 (by decide) n rest, rfl, complete_jumpTo (bonus := 0) 12 rfl⟩
  case jrWhen =>
    have hc := condField_ofField cc
    obtain ⟨i, hdec, hexec⟩ := conditionalJr_form hc n
    exact ⟨i, _, hdec rest, hexec s, complete_whenTaken_jumpTo hc 8 4 (by decide) rfl⟩

end Sys2Proof.Machine
end

section
/-! The decoder and the encoder (30_encoding.md R100, R103, R112 to R117): the words of the instruction set as a
relation, which the encoder's bytes meet and the decoder inverts, and the statements about encoding. -/

namespace Sys2Proof

/-! ## The words of the instruction set -/

/-- `bytes` is the word of instruction `i`: an opcode alone, with an 8-bit or with a 16-bit immediate, as its format
says, or the lead byte 0xCB and a sub-opcode. -/
inductive IsWord : Instr → List Byte → Prop
  | bare {i : Instr} {op : Byte} (format : (formatOf op).bytesRead = 1) (row : ofPrimary op 0 0 = i) : IsWord i [op]
  | imm8 {i : Instr} {op n : Byte} (format : formatOf op = .P2) (row : ofPrimary op n 0 = i) : IsWord i [op, n]
  | imm16 {i : Instr} {op : Byte} {nn : Word} (format : formatOf op = .P3) (row : ofPrimary op 0 nn = i) :
    IsWord i [op, lo8 nn, hi8 nn]
  | cb {i : Instr} {sub : Byte} (row : ofCb sub = i) : IsWord i [0xCB, sub]

/-- The rows of the opcode maps cover the instructions: each has the word that the encoder gives it. -/
theorem isWord_encode {i : Instr} (h : i.wf = true) : IsWord i (encode i) := by
  cases i
  case prefixCB => nomatch h
  all_goals first
    | exact .bare rfl rfl
    | exact .cb rfl
    | exact .imm8 rfl rfl
    | exact .imm16 rfl rfl

/-- The primary map's rows encode back to their opcode and the immediates of its format; the lead byte's row alone is no
instruction. -/
theorem encode_ofPrimary (op n : Byte) (nn : Word) :
    (ofPrimary op n nn).wf = (op != 0xCB) ∧
      encode (ofPrimary op n nn) = match formatOf op with
        | .P2 | .CB2 => [op, n]
        | .P3 => [op, lo8 nn, hi8 nn]
        | _ => [op] := by
  fin_cases op <;> exact ⟨rfl, rfl⟩

theorem encode_ofCb : ∀ sub : Byte, (ofCb sub).wf = true ∧ encode (ofCb sub) = [0xCB, sub] := by decide

theorem ne_lead_of_format {op : Byte} (h : formatOf op ≠ .CB2) : op ≠ 0xCB := by
  rintro rfl
  exact h rfl

theorem IsWord.wf_and_encode {i : Instr} {word : List Byte} (h : IsWord i word) : i.wf = true ∧ encode i = word := by
  cases h
  case bare op format row =>
    obtain ⟨hwf, henc⟩ := encode_ofPrimary op 0 0
    rw [← row, hwf, henc]
    cases hf : formatOf op
    case P2 | P3 | CB2 =>
      rw [hf] at format
      cases format
    all_goals exact ⟨bne_iff_ne.mpr (ne_lead_of_format (by simp [hf])), rfl⟩
  case imm8 op n format row =>
    obtain ⟨hwf, henc⟩ := encode_ofPrimary op n 0
    rw [← row, hwf, henc, format]
    exact ⟨bne_iff_ne.mpr (ne_lead_of_format (by simp [format])), rfl⟩
  case imm16 op nn format row =>
    obtain ⟨hwf, henc⟩ := encode_ofPrimary op 0 nn
    rw [← row, hwf, henc, format]
    exact ⟨bne_iff_ne.mpr (ne_lead_of_format (by simp [format])), rfl⟩
  case cb sub row => exact row ▸ encode_ofCb sub

theorem eq_lead_of_format : ∀ {op : Byte}, formatOf op = .CB2 → op = 0xCB := by decide

/-! ## The decoder reads words and nothing else -/

theorem IsWord.decode_append {i : Instr} {word : List Byte} (h : IsWord i word) (rest : List Byte) :
    decode (word ++ rest) = .ok (i, rest) := by
  cases h
  case bare op format row =>
    subst row
    cases hf : formatOf op <;> simp_all [decode, Format.bytesRead]
  case imm8 op n format row => exact row ▸ decode_of_P2 format n rest
  case imm16 op nn format row => exact row ▸ decode_of_P3 format nn rest
  case cb sub row => exact row ▸ decode_of_CB2 sub rest

theorem isWord_of_decode {bytes rest : List Byte} {i : Instr} (h : decode bytes = .ok (i, rest)) :
    ∃ word, IsWord i word ∧ bytes = word ++ rest := by
  obtain _ | ⟨op, tail⟩ := bytes
  · nomatch h
  cases hf : formatOf op <;> simp only [decode, hf] at h
  case P1 | PSTOP | ILLEGAL =>
    obtain ⟨rfl, rfl⟩ : ofPrimary op 0 0 = i ∧ tail = rest := by simpa using h
    exact ⟨[op], .bare (by rw [hf]; rfl) rfl, rfl⟩
  case P2 =>
    obtain _ | ⟨n, tail⟩ := tail
    · nomatch h
    obtain ⟨rfl, rfl⟩ : ofPrimary op n 0 = i ∧ tail = rest := by simpa using h
    exact ⟨[op, n], .imm8 hf rfl, rfl⟩
  case P3 =>
    obtain _ | ⟨lo, _ | ⟨hi, tail⟩⟩ := tail
    · nomatch h
    · nomatch h
    obtain ⟨rfl, rfl⟩ : ofPrimary op 0 (cat16 hi lo) = i ∧ tail = rest := by simpa using h
    refine ⟨[op, lo, hi], ?_, rfl⟩
    simpa using IsWord.imm16 (nn := cat16 hi lo) hf rfl
  case CB2 =>
    obtain rfl : op = 0xCB := eq_lead_of_format hf
    obtain _ | ⟨sub, tail⟩ := tail
    · nomatch h
    obtain ⟨rfl, rfl⟩ : ofCb sub = i ∧ tail = rest := by simpa using h
    exact ⟨[0xCB, sub], .cb rfl, rfl⟩

/-- The opcode byte of an instruction. -/
def Instr.opcode (i : Instr) : Byte := (encode i).headD 0

/-- The first byte of what decodes is the opcode of the instruction. -/
theorem opcode_of_decode {op : Byte} {bytes rest : List Byte} {i : Instr} (h : decode (op :: bytes) = .ok (i, rest)) :
    i.opcode = op := by
  obtain ⟨word, hw, happ⟩ := isWord_of_decode h
  rw [Instr.opcode, hw.wf_and_encode.2]
  cases hw <;> exact (List.cons.inj happ).1.symm

end Sys2Proof

namespace Sys2Proof.Machine

/-! ## The statements -/

/-- Settles O1: the encoder's bytes are the instruction's word, which the decoder reads back. -/
theorem decodeEncodeRoundTrip : Obligations.DecodeEncodeRoundTrip :=
  fun _ rest hwf => (isWord_encode hwf).decode_append rest

/-- Settles O2: what decodes begins with a word, and an instruction has no word but the encoder's. -/
theorem encodeDecodeRoundTrip : Obligations.EncodeDecodeRoundTrip := by
  intro bytes rest i h
  obtain ⟨word, hword, rfl⟩ := isWord_of_decode h
  obtain ⟨hwf, rfl⟩ := hword.wf_and_encode
  exact ⟨hwf, rfl⟩

/-- Settles O3: nineteen closed words, each evaluated. -/
theorem decodedWordsOfEveryFamily : Obligations.DecodedWordsOfEveryFamily := by
  unfold Obligations.DecodedWordsOfEveryFamily
  and_intros <;> rfl

end Sys2Proof.Machine
end

section
/-! Every instruction (46_system.md R365, R366; 60_exceptions.md R411, R416, R433; 70_reset_and_hazards.md R460 to
R463): its cost by the tables, its bonus and its effect on the four booleans as functions of the instruction, what any
instruction that is no illegal opcode does, and the statements about all of them. -/

namespace Sys2Proof.Machine

/-! ## The tables an instruction follows -/

/-- The cost that the two tables give a word: the base of its opcode and, for the lead byte 0xCB, that of the sub-opcode
(70_reset_and_hazards.md R460, R461). -/
def tableCost : List Byte → Nat
  | [] => 0
  | op :: bytes => baseCost op + if op = 0xCB then cbBase (bytes.headD 0) else 0

/-- The extra cycles of a taken conditional transfer (70_reset_and_hazards.md R462, R463). -/
def takenBonus (op : Byte) : Nat :=
  if op ∈ ([0x20, 0x28, 0x30, 0x38, 0xC2, 0xCA, 0xD2, 0xDA] : List Byte) then 4
  else if op ∈ ([0xC4, 0xCC, 0xD4, 0xDC, 0xC0, 0xC8, 0xD0, 0xD8] : List Byte) then 12
  else 0

/-- The four booleans after an instruction (60_exceptions.md R416, R433). -/
def nextInt : Instr → IntState → IntState
  | .halt, x => { x with halted := true }
  | .stop, x => { x with stopped := true }
  | .di, x => { x with ime := false }
  | .ei, x => { x with eiPending := true }
  | .reti, x => { x with ime := true }
  | _, x => x

/-- `t` has the booleans and the bonus that the tables give instruction `i` run from `s`. -/
structure FollowsTables (i : Instr) (s t : State) : Prop where
  int : t.int = nextInt i s.int
  extra : t.scratch.extraCycles = if t.scratch.jumped = false then 0 else takenBonus i.opcode

section

variable {i : Instr} {s : State} {len base bc : Nat} {h : State → State}

theorem followsTables_of_straight (hi : (h (s.fetched len)).int = nextInt i s.int)
    (hs : (h (s.fetched len)).scratch = { bc := bc, jumped := false, extraCycles := 0, cost := 0 }) :
    FollowsTables i s (complete len base h s) := by
  refine ⟨(complete_int ..).trans hi, ?_⟩
  rw [complete_scratch, hs]
  rfl

theorem followsTables_of_jump (hi : (h (s.fetched len)).int = nextInt i s.int)
    (hs : (h (s.fetched len)).scratch = { bc := bc, jumped := true, extraCycles := 0, cost := 0 })
    (hb : takenBonus i.opcode = 0) : FollowsTables i s (complete len base h s) := by
  refine ⟨(complete_int ..).trans hi, ?_⟩
  rw [complete_scratch, hs, hb]
  rfl

theorem followsTables_of_whenTaken {cc : Cond} {bonus : Nat} (hn : nextInt i s.int = s.int)
    (hi : (h (s.fetched len)).int = s.int)
    (hs : (h (s.fetched len)).scratch = { bc := bc, jumped := true, extraCycles := 0, cost := 0 })
    (hb : takenBonus i.opcode = bonus) : FollowsTables i s (complete len base (whenTaken cc bonus h) s) := by
  subst hb
  refine ⟨?_, ?_⟩
  · rw [complete_int, whenTaken, hn]
    split
    · exact hi
    · rfl
  · rw [complete_scratch, whenTaken]
    split
    · rw [extra_scratch, hs]
      rfl
    · rfl

end

/-! ## Every instruction by its opcode -/

theorem storeAThenStep_int (w : Word) (s : State) : (storeAThenStep w s).int = s.int := rfl
theorem storeAThenStep_scratch (w : Word) (s : State) : (storeAThenStep w s).scratch = s.scratch := rfl
theorem loadAThenStep_int (w : Word) (s : State) : (loadAThenStep w s).int = s.int := rfl
theorem loadAThenStep_scratch (w : Word) (s : State) : (loadAThenStep w s).scratch = s.scratch := rfl

/-- Outside the CB space: sixteen conditional transfers, fourteen jumps, and handlers that leave the scratch alone. -/
theorem exec_primary {i : Instr} (s : State) (hp : i.opcode ≠ 0xCB) (hl : i.opcode ∉ illegalOpcodes) :
    ∃ len base h, exec i s = .next (complete len base h s) ∧ base = tableCost (encode i) ∧ IsHandler h ∧
      FollowsTables i s (complete len base h s) := by
  cases i
  case illegalD3 | illegalDB | illegalDD | illegalE3 | illegalE4 | illegalEB | illegalEC | illegalED | illegalF4 |
      illegalFC | illegalFD =>
    exact absurd (by decide) hl
  case jrNZe8 | jrZe8 | jrNCe8 | jrCe8 | jpNZa16 | jpZa16 | jpNCa16 | jpCa16 =>
    refine ⟨_, _, _, rfl, rfl, .whenTaken4 _ _ ?_, followsTables_of_whenTaken rfl rfl rfl rfl⟩
    with_reducible constructor
  case callNZa16 | callZa16 | callNCa16 | callCa16 | retNZ | retZ | retNC | retC =>
    refine ⟨_, _, _, rfl, rfl, .whenTaken12 _ _ ?_, followsTables_of_whenTaken rfl rfl rfl rfl⟩
    with_reducible constructor
  case jre8 | jpa16 | jpHL | calla16 | ret | reti | rst00H | rst08H | rst10H | rst18H | rst20H | rst28H | rst30H |
      rst38H =>
    refine ⟨_, _, _, rfl, rfl, ?_, followsTables_of_jump rfl rfl rfl⟩
    with_reducible constructor
  case ldAtHLDecA =>
    exact ⟨_, _, _, rfl, rfl, .storeAThenStep _,
      followsTables_of_straight (storeAThenStep_int _ _) (storeAThenStep_scratch _ _)⟩
  case ldAAtHLDec =>
    exact ⟨_, _, _, rfl, rfl, .loadAThenStep _,
      followsTables_of_straight (loadAThenStep_int _ _) (loadAThenStep_scratch _ _)⟩
  all_goals first
    | exact absurd rfl hp
    | refine ⟨_, _, _, rfl, rfl, ?_, followsTables_of_straight rfl rfl⟩
      with_reducible constructor
      all_goals nofun

/-- All that an instruction with a legal opcode does to what is not a register or a byte. -/
structure Completes (i : Instr) (s t : State) : Prop extends FollowsTables i s t where
  fault : t.fault = s.fault
  params : t.params = s.params
  inputs : t.inputs = s.inputs
  low : s.r8 .F &&& 0x0F = 0 → t.r8 .F &&& 0x0F = 0
  tick : t.tick = s.tick + BitVec.ofNat 16 t.scratch.cost
  cost : t.scratch.cost = tableCost (encode i) + t.scratch.extraCycles
  accesses : ∃ l : List BusAccess, Accesses l s t ∧ l.length ≤ 2

theorem completes_of_handler {i : Instr} {s : State} {len base : Nat} {h : State → State} (hh : IsHandler h)
    (hb : base = tableCost (encode i)) (tables : FollowsTables i s (complete len base h s)) :
    Completes i s (complete len base h s) := by
  have effect := handler_effect hh (s.fetched len)
  refine ⟨tables, (complete_fault ..).trans effect.fault, (complete_params ..).trans effect.params,
    (complete_inputs ..).trans effect.inputs, fun hl => ?_, ?_, ?_, ?_⟩
  · rw [r8_complete]
    exact effect.low hl
  · rw [complete_tick, effect.tick, fetched_tick]
  · rw [complete_scratch, effect.cost, hb]
    exact Nat.zero_add _
  · obtain ⟨l, accesses, length⟩ := effect.accesses
    exact ⟨l, complete_accesses l len base h s accesses, length⟩

theorem modifyOperand_straight (s : State) (o : Operand8) (v : Byte) :
    ((s.readOperand o).2.writeOperand o v).int = s.int ∧
      ((s.readOperand o).2.writeOperand o v).scratch = s.scratch := by
  cases o
  case reg r => exact ⟨setR8_int s r v, setR8_scratch s r v⟩
  case atHL => exact ⟨rfl, rfl⟩

/-- No instruction of the CB space touches the booleans or the scratch. -/
theorem cbHandler_straight (sub : Byte) (s : State) :
    (cbHandler sub s).int = s.int ∧ (cbHandler sub s).scratch = s.scratch := by
  unfold cbHandler
  split
  · exact modifyOperand_straight s _ _
  · cases Operand8.ofField (fieldZ sub) <;> exact ⟨rfl, rfl⟩
  · exact modifyOperand_straight s _ _
  · exact modifyOperand_straight s _ _

theorem prefixCB_completes {sub : Byte} {i : Instr} (henc : encode i = [0xCB, sub]) (s : State)
    (hn : nextInt i s.int = s.int) : ∃ t, exec (.prefixCB sub) s = .next t ∧ Completes i s t := by
  obtain ⟨int, scratch⟩ := cbHandler_straight sub (s.fetched 2)
  exact ⟨_, rfl, completes_of_handler (.cbHandler sub) (by rw [henc]; rfl)
    (followsTables_of_straight (int.trans hn.symm) scratch)⟩

/-! ## The opcode tells the instruction -/

theorem encode_eq_opcode_cons {i : Instr} (h : i.wf = true) :
    ∃ tail, encode i = i.opcode :: tail ∧ decode (i.opcode :: tail) = .ok (i, []) := by
  have hdec := (isWord_encode h).decode_append []
  rw [List.append_nil] at hdec
  obtain ⟨op, tail, henc⟩ : ∃ op tail, encode i = op :: tail := by
    cases henc : encode i
    case nil =>
      rw [henc] at hdec
      nomatch hdec
    case cons op tail => exact ⟨op, tail, rfl⟩
  have hop : i.opcode = op := by rw [Instr.opcode, henc, List.headD_cons]
  rw [hop]
  exact ⟨tail, henc, henc ▸ hdec⟩

/-- An opcode without immediate or sub-opcode is its instruction. -/
theorem opcode_eq_iff {op : Byte} (hf : (formatOf op).bytesRead = 1) {i : Instr} :
    i.opcode = op ↔ i = ofPrimary op 0 0 := by
  refine ⟨fun h => ?_, fun h => ?_⟩
  · subst h
    cases hwf : i.wf
    case false =>
      cases i
      case prefixCB => nomatch hf
      all_goals nomatch hwf
    case true =>
      obtain ⟨tail, -, hdec⟩ := encode_eq_opcode_cons hwf
      have hrow := (IsWord.bare hf rfl).decode_append tail
      exact (Prod.mk.inj (Except.ok.inj (hdec.symm.trans hrow))).1
  · rw [h, Instr.opcode, (IsWord.bare hf rfl).wf_and_encode.2]
    rfl

/-- An illegal opcode is an instruction by itself, and that instruction sets the fault mark. -/
theorem exec_illegal {i : Instr} (h : i.opcode ∈ illegalOpcodes) :
    encode i = [i.opcode] ∧ ∀ s, exec i s = .next (s.raiseIllegal i.opcode) := by
  have format : ∀ op ∈ illegalOpcodes, (formatOf op).bytesRead = 1 := by decide
  have hi : i = ofPrimary i.opcode 0 0 := (opcode_eq_iff (format _ h)).mp rfl
  generalize i.opcode = op at h hi
  subst hi
  simp only [illegalOpcodes, List.mem_cons, List.not_mem_nil, or_false] at h
  rcases h with rfl | rfl | rfl | rfl | rfl | rfl | rfl | rfl | rfl | rfl | rfl <;> exact ⟨rfl, fun _ => rfl⟩

@[simp] theorem opcode_halt : Instr.halt.opcode = 0x76#8 := rfl
@[simp] theorem opcode_stop : Instr.stop.opcode = 0x10#8 := rfl
@[simp] theorem opcode_di : Instr.di.opcode = 0xF3#8 := rfl
@[simp] theorem opcode_ei : Instr.ei.opcode = 0xFB#8 := rfl
@[simp] theorem opcode_reti : Instr.reti.opcode = 0xD9#8 := rfl

theorem opcode_eq_halt {i : Instr} : i.opcode = 0x76#8 ↔ i = .halt := opcode_eq_iff rfl
theorem opcode_eq_stop {i : Instr} : i.opcode = 0x10#8 ↔ i = .stop := opcode_eq_iff rfl
theorem opcode_eq_di {i : Instr} : i.opcode = 0xF3#8 ↔ i = .di := opcode_eq_iff rfl
theorem opcode_eq_ei {i : Instr} : i.opcode = 0xFB#8 ↔ i = .ei := opcode_eq_iff rfl
theorem opcode_eq_reti {i : Instr} : i.opcode = 0xD9#8 ↔ i = .reti := opcode_eq_iff rfl

/-- The opcode tells what an instruction does to each of the four booleans. -/
theorem nextInt_eq (i : Instr) (x : IntState) :
    nextInt i x =
      { ime := i.opcode == 0xD9#8 || x.ime && i.opcode != 0xF3#8
        eiPending := x.eiPending || i.opcode == 0xFB#8
        halted := x.halted || i.opcode == 0x76#8
        stopped := x.stopped || i.opcode == 0x10#8 } := by
  unfold nextInt
  split
  case h_6 notHalt notStop notDi notEi notReti =>
    have halt : (i.opcode == 0x76#8) = false := beq_false_of_ne (mt opcode_eq_halt.mp notHalt)
    have stop : (i.opcode == 0x10#8) = false := beq_false_of_ne (mt opcode_eq_stop.mp notStop)
    have di : (i.opcode == 0xF3#8) = false := beq_false_of_ne (mt opcode_eq_di.mp notDi)
    have ei : (i.opcode == 0xFB#8) = false := beq_false_of_ne (mt opcode_eq_ei.mp notEi)
    have reti : (i.opcode == 0xD9#8) = false := beq_false_of_ne (mt opcode_eq_reti.mp notReti)
    simp [bne, halt, stop, di, ei, reti]
  all_goals simp

/-- An instruction of the CB space runs as the lead byte's constructor does with its sub-opcode (46_system.md R365). -/
theorem exec_ofCb (sub : Byte) (s : State) : exec (ofCb sub) s = exec (.prefixCB sub) s := by
  fin_cases sub <;> rfl

theorem exec_lead {i : Instr} (h : i.opcode = 0xCB) :
    ∃ sub, encode i = [0xCB, sub] ∧ ∀ s, exec i s = exec (.prefixCB sub) s := by
  cases hwf : i.wf
  case false =>
    cases i
    case prefixCB sub => exact ⟨sub, rfl, fun _ => rfl⟩
    all_goals nomatch hwf
  case true =>
    obtain ⟨tail, henc, hdec⟩ := encode_eq_opcode_cons hwf
    rw [h] at henc hdec
    obtain _ | ⟨sub, tail⟩ := tail
    · nomatch hdec
    · rw [decode_of_CB2, Except.ok.injEq, Prod.mk.injEq] at hdec
      obtain ⟨rfl, rfl⟩ := hdec
      exact ⟨sub, henc, exec_ofCb sub⟩

theorem nextInt_lead {i : Instr} (h : i.opcode = 0xCB) (x : IntState) : nextInt i x = x := by
  simp [nextInt_eq, h]

/-- Every instruction answers a next state: the fault mark of an illegal opcode, or what the tables and the rules of the
control state say. -/
theorem exec_rule (i : Instr) (s : State) :
    (i.opcode ∈ illegalOpcodes ∧ encode i = [i.opcode] ∧ exec i s = .next (s.raiseIllegal i.opcode)) ∨
      i.opcode ∉ illegalOpcodes ∧ ∃ t, exec i s = .next t ∧ Completes i s t := by
  by_cases hl : i.opcode ∈ illegalOpcodes
  · obtain ⟨henc, hexec⟩ := exec_illegal hl
    exact .inl ⟨hl, henc, hexec s⟩
  refine .inr ⟨hl, ?_⟩
  by_cases hp : i.opcode = 0xCB
  · obtain ⟨sub, henc, hexec⟩ := exec_lead hp
    rw [hexec]
    exact prefixCB_completes henc s (nextInt_lead hp _)
  · obtain ⟨len, base, h, hexec, hb, hh, tables⟩ := exec_primary s hp hl
    exact ⟨_, hexec, completes_of_handler hh hb tables⟩

/-- The same for a state known to be the answer. -/
theorem exec_next_cases {i : Instr} {s t : State} (h : exec i s = .next t) :
    (i.opcode ∈ illegalOpcodes ∧ t = s.raiseIllegal i.opcode) ∨ i.opcode ∉ illegalOpcodes ∧ Completes i s t := by
  rcases exec_rule i s with ⟨hl, -, hexec⟩ | ⟨hl, u, hexec, completes⟩ <;> cases hexec.symm.trans h
  · exact .inl ⟨hl, rfl⟩
  · exact .inr ⟨hl, completes⟩

theorem tableCost_encode_of_decode {bytes rest : List Byte} {i : Instr} (h : decode bytes = .ok (i, rest)) :
    tableCost (encode i) = tableCost bytes := by
  obtain ⟨word, hword, rfl⟩ := isWord_of_decode h
  rw [hword.wf_and_encode.2]
  cases hword
  case bare op format row =>
    have hop : op ≠ 0xCB := by
      rintro rfl
      cases format
    simp only [tableCost, List.cons_append, if_neg hop]
  all_goals rfl

/-! ## The statements -/

/-- Settles O4: the format of the opcode gives the length, and the opcode tells the illegal instructions. -/
theorem decoderIsTotal : Obligations.DecoderIsTotal := by
  intro op
  have positive : 1 ≤ fetchLength op := by rcases fetchLength_cases op with h | h | h <;> omega
  refine ⟨fetchLength op, positive, fetchLength_le op, fun h => h ▸ rfl, fun a b rest => ?_⟩
  obtain ⟨i, hdec, -⟩ := decode_three op a b rest
  have hop := opcode_of_decode hdec
  refine ⟨i, ?_, fun s t hs hexec => ?_⟩
  · rw [hdec, ← List.drop_append_of_le_length (fetchLength_le op)]
    rfl
  · change _ ↔ op ∈ illegalOpcodes
    rcases exec_next_cases hexec with ⟨hl, rfl⟩ | ⟨hl, completes⟩
    · exact iff_of_true (Option.some_ne_none _) (hop ▸ hl)
    · exact iff_of_false (not_not_intro (completes.fault.trans hs)) (hop ▸ hl)

/-- Settles O20: the cost that `exec` charges is the tables' cost of the encoding, which is what was decoded. -/
theorem cycleTablesGiveEveryCost : Obligations.CycleTablesGiveEveryCost := by
  intro op bytes rest i s t hdec hlegal hexec
  have hop := opcode_of_decode hdec
  obtain ⟨hl, -⟩ | ⟨-, completes⟩ := exec_next_cases hexec
  · exact absurd (hop ▸ hl) hlegal
  refine ⟨?_, ?_⟩
  · rw [completes.cost, tableCost_encode_of_decode hdec, tableCost]
    omega
  · rw [completes.extra, hop]
    rfl

/-- Settles O23: an illegal opcode sets the mark alone, and any other instruction changes the booleans as `nextInt`. -/
theorem everyInstructionCompletes : Obligations.EveryInstructionCompletes := by
  intro i s
  rcases exec_rule i s with ⟨hl, henc, hexec⟩ | ⟨-, t, hexec, completes⟩
  · exact ⟨_, hexec, rfl, rfl, .inr ⟨_, hl, henc, rfl⟩, fun _ _ => rfl, fun _ => rfl, fun _ => rfl, fun _ => rfl⟩
  · refine ⟨t, hexec, completes.params, completes.inputs, .inl completes.fault, ?_, ?_, ?_, ?_⟩ <;>
      rw [completes.int, nextInt_eq]
    · intro notReti notDi
      simp [bne, beq_false_of_ne (mt opcode_eq_reti.mp notReti), beq_false_of_ne (mt opcode_eq_di.mp notDi)]
    · intro notEi
      simp [mt opcode_eq_ei.mp notEi]
    · intro notHalt
      simp [mt opcode_eq_halt.mp notHalt]
    · intro notStop
      simp [mt opcode_eq_stop.mp notStop]

/-- Settles O53: the sub-opcode's instruction runs as the lead byte's constructor does, and both answer. -/
theorem prefixRunsTheCbInstruction : Obligations.PrefixRunsTheCbInstruction := by
  intro sub rest s
  exact ⟨ofCb sub, _, decode_of_CB2 sub rest, exec_ofCb sub s, rfl⟩

end Sys2Proof.Machine
end

section
/-! The step machine (60_exceptions.md R400 to R422, R433): what a step answers, as five cases with the executing one
worked out by the opcode, and the statements about every step. -/

namespace Sys2Proof.Machine

/-! ## What a step answers -/

/-- The state a step dispatches or idles from: the host's input taken and the wakes done. -/
def State.woken (s : State) : State := { s.beginStep with int := s.wokenInt }

@[simp] theorem woken_regs (s : State) : s.woken.regs = s.regs := rfl
@[simp] theorem r8_woken (s : State) (q : Reg8) : s.woken.r8 q = s.r8 q := by cases q <;> rfl
@[simp] theorem woken_int (s : State) : s.woken.int = s.wokenInt := rfl
@[simp] theorem woken_tick (s : State) : s.woken.tick = s.tick := rfl
@[simp] theorem woken_fault (s : State) : s.woken.fault = s.fault := rfl
@[simp] theorem woken_scratch (s : State) : s.woken.scratch = Scratch.start := rfl
@[simp] theorem woken_bus (s : State) : s.woken.bus = s.beginStep.bus := rfl
@[simp] theorem woken_params (s : State) : s.woken.params = s.params := rfl
@[simp] theorem woken_inputs (s : State) : s.woken.inputs = s.inputs.tail := rfl

theorem woken_dispatch_tick (s : State) (p : Byte) : (s.woken.dispatch p).tick = s.tick + BitVec.ofNat 16 20 := rfl
theorem woken_dispatch_cost (s : State) (p : Byte) : (s.woken.dispatch p).scratch.cost = 20 := rfl
theorem woken_idle_cost (s : State) : s.woken.idle.scratch.cost = 4 := rfl
theorem woken_idle_tick (s : State) : s.woken.idle.tick = s.tick + BitVec.ofNat 16 4 := rfl

@[simp] theorem executing_regs (s : State) : s.executing.regs = s.regs := rfl
@[simp] theorem executing_tick (s : State) : s.executing.tick = s.tick := rfl
@[simp] theorem executing_fault (s : State) : s.executing.fault = s.fault := rfl
@[simp] theorem executing_params (s : State) : s.executing.params = s.params := rfl
@[simp] theorem executing_inputs (s : State) : s.executing.inputs = s.inputs.tail := rfl
@[simp] theorem executing_int (s : State) :
    s.executing.int =
      { ime := s.int.ime || s.int.eiPending, eiPending := false, halted := false, stopped := false } := rfl

theorem executing_accesses (s : State) :
    Accesses (s.fetchReads (fetchLength s.nextOpcode)) s.beginStep s.executing :=
  ⟨rfl, fetch_accesses _ _⟩

/-- Every fetch reads the opcode first. -/
theorem nextBytes_take (s : State) :
    ∃ tail, s.nextBytes.take (fetchLength s.nextOpcode) = s.nextOpcode :: tail := by
  rcases fetchLength_cases s.nextOpcode with h | h | h <;> rw [h] <;> exact ⟨_, rfl⟩

/-- The states that a step from `s` can answer (60_exceptions.md R404, R420, R421). -/
inductive StepOutcome (s : State) : State → Prop
  | stuck (h : s.fault ≠ none) : StepOutcome s s
  | dispatch (h : s.Dispatches) : StepOutcome s (s.woken.dispatch s.sampledPending)
  | idle (h : s.Idles) : StepOutcome s s.woken.idle
  | illegal (h : s.Executes) (op : s.nextOpcode ∈ illegalOpcodes) :
    StepOutcome s (s.faulted (s.executing.raiseIllegal s.nextOpcode))
  | execute {i : Instr} {t : State} (h : s.Executes) (legal : s.nextOpcode ∉ illegalOpcodes)
    (op : i.opcode = s.nextOpcode) (completes : Completes i s.executing t) : StepOutcome s t

/-- An executing step runs an instruction whose opcode is the byte it reads first. -/
theorem step_execute_opcode {s : State} (h : s.Executes) :
    ∃ i t, i.opcode = s.nextOpcode ∧ decode (s.nextBytes.take (fetchLength s.nextOpcode)) = .ok (i, []) ∧
      exec i s.executing = .next t ∧ step s = .next (if t.fault.isSome then s.faulted t else t) := by
  obtain ⟨i, t, hdec, hexec, hstep⟩ := step_execute s h
  obtain ⟨tail, htake⟩ := nextBytes_take s
  exact ⟨i, t, opcode_of_decode (htake ▸ hdec), hdec, hexec, hstep⟩

/-- An executing step with an illegal opcode gives back the state it started from, with the fault mark. -/
theorem step_illegal {s : State} (h : s.Executes) (op : s.nextOpcode ∈ illegalOpcodes) :
    step s = .next (s.faulted (s.executing.raiseIllegal s.nextOpcode)) := by
  obtain ⟨i, t, hop, -, hexec, hstep⟩ := step_execute_opcode h
  obtain ⟨-, rfl⟩ | ⟨legal, -⟩ := exec_next_cases hexec
  · rw [hstep, hop]
    rfl
  · exact absurd (hop ▸ op) legal

/-- An executing step with a legal opcode answers what its instruction does. -/
theorem step_legal {s : State} (h : s.Executes) (legal : s.nextOpcode ∉ illegalOpcodes) :
    ∃ i t, i.opcode = s.nextOpcode ∧ decode (s.nextBytes.take (fetchLength s.nextOpcode)) = .ok (i, []) ∧
      exec i s.executing = .next t ∧ step s = .next t ∧ Completes i s.executing t := by
  obtain ⟨i, t, hop, hdec, hexec, hstep⟩ := step_execute_opcode h
  obtain ⟨op, -⟩ | ⟨-, completes⟩ := exec_next_cases hexec
  · exact absurd (hop ▸ op) legal
  · have hfault : t.fault = none := completes.fault.trans h.1
    exact ⟨i, t, hop, hdec, hexec, by simpa [hfault] using hstep, completes⟩

theorem step_outcome (s : State) : ∃ t, step s = .next t ∧ StepOutcome s t := by
  rcases step_kinds s with h | h | h | h
  · exact ⟨_, step_faulted s h, .stuck h⟩
  · exact ⟨_, step_dispatch s h, .dispatch h⟩
  · exact ⟨_, step_idle s h, .idle h⟩
  · by_cases op : s.nextOpcode ∈ illegalOpcodes
    · exact ⟨_, step_illegal h op, .illegal h op⟩
    · obtain ⟨i, t, hop, -, -, hstep, completes⟩ := step_legal h op
      exact ⟨t, hstep, .execute h op hop completes⟩

theorem stepOutcome_of_next {s t : State} (h : step s = .next t) : StepOutcome s t := by
  obtain ⟨u, hu, outcome⟩ := step_outcome s
  cases hu.symm.trans h
  exact outcome

/-! ## The invariant -/

theorem wf_executing {s : State} (h : s.bus.mem.wf) : s.executing.bus.mem.wf :=
  (executing_accesses s).wf (wf_beginStep s h)

theorem tick_mod_of_cost {x : Word} {cost : Nat} (hx : x.toNat % 4 = 0) (hc : cost % 4 = 0) :
    (x + BitVec.ofNat 16 cost).toNat % 4 = 0 := by
  rw [BitVec.toNat_add, BitVec.toNat_ofNat]
  omega

theorem tableCost_mod (bytes : List Byte) : tableCost bytes % 4 = 0 := by
  cases bytes with
  | nil => rfl
  | cons op bytes =>
    have base := baseCost_mod op
    have cb := cbBase_mod (bytes.headD 0)
    rw [tableCost]
    split <;> omega

theorem takenBonus_mod (op : Byte) : takenBonus op % 4 = 0 := by
  unfold takenBonus
  split
  · rfl
  · split <;> rfl

theorem Completes.cost_mod {i : Instr} {s t : State} (h : Completes i s t) : t.scratch.cost % 4 = 0 := by
  have table := tableCost_mod (encode i)
  have bonus := takenBonus_mod i.opcode
  rw [h.cost, h.extra]
  split <;> omega

/-- The wakes set neither Halted nor Stopped. -/
theorem wokenInt_power {s : State} (h : (s.int.halted && s.int.stopped) = false) :
    (s.wokenInt.halted && s.wokenInt.stopped) = false := by
  cases hh : s.int.halted
  case false => simp [State.wokenInt, hh]
  case true =>
    have hs : s.int.stopped = false := by simpa [hh] using h
    simp [State.wokenInt, hs]

/-- From a running core an instruction sets at most one of Halted and Stopped. -/
theorem nextInt_power (i : Instr) {x : IntState} (hh : x.halted = false) (hs : x.stopped = false) :
    ((nextInt i x).halted && (nextInt i x).stopped) = false := by
  rw [nextInt_eq]
  by_cases halt : i.opcode = 0x76#8
  · simp [hs, halt]
  · simp [hh, halt]

/-! ## The statements -/

/-- Settles O5: the construction sets each field of the table by its value. -/
theorem resetState : Obligations.ResetState :=
  ⟨fun _ _ _ => ⟨_, rfl, rfl, rfl, rfl, rfl, rfl, rfl, rfl, rfl, rfl, rfl, rfl, rfl, rfl⟩, rfl, rfl, rfl, rfl, rfl, rfl,
    rfl⟩

/-- Settles O6: the construction state masks AF, and its other fields are the table's. -/
theorem resetMeetsInvariant : Obligations.ResetMeetsInvariant := by
  have construction (b : BootRegs) (p : Params) (bus : Bus) (h : bus.mem.wf) : (State.resetWith b p bus).Inv := by
    refine ⟨h, ?_, rfl, rfl, rfl⟩
    change lo8 (b.af &&& 0xFFF0) &&& 0x0F = 0
    have masked : lo8 (b.af &&& 0xFFF0) = lo8 b.af &&& 0xF0 := BitVec.extractLsb'_and ..
    rw [masked]
    exact and_F0_low_nibble _
  exact ⟨construction, construction _ _ _ rfl⟩

/-- Settles O7: each of the five outcomes of a step keeps each part of the invariant. -/
theorem stepKeepsInvariant : Obligations.StepKeepsInvariant := by
  intro s t inv hstep
  have ⟨wf, low, power, tick, mark⟩ := inv
  cases stepOutcome_of_next hstep
  case stuck => exact inv
  case dispatch h =>
    refine ⟨wf_dispatch _ _ (wf_beginStep s wf), ?_, ?_, ?_, ?_⟩
    · rw [r8_dispatch, r8_woken]
      exact low
    · exact wokenInt_power power
    · rw [woken_dispatch_tick]
      exact tick_mod_of_cost tick rfl
    · rw [dispatch_fault, woken_fault, h.1]
      rfl
  case idle h =>
    refine ⟨wf_beginStep s wf, low, wokenInt_power power, ?_, ?_⟩
    · rw [woken_idle_tick]
      exact tick_mod_of_cost tick rfl
    · rw [idle_fault, woken_fault, h.1]
      rfl
  case illegal h op =>
    refine ⟨wf_executing wf, low, power, tick, ?_⟩
    simpa [State.faulted, State.raiseIllegal] using op
  case execute i h legal op completes =>
    obtain ⟨l, accesses, -⟩ := completes.accesses
    refine ⟨accesses.wf (wf_executing wf), completes.low low, ?_, ?_, ?_⟩
    · rw [completes.int]
      exact nextInt_power i rfl rfl
    · rw [completes.tick]
      exact tick_mod_of_cost tick completes.cost_mod
    · rw [completes.fault, executing_fault, h.1]
      rfl

/-- Settles O8: every outcome of a step is a next state. -/
theorem stepAlwaysAnswersNext : Obligations.StepAlwaysAnswersNext := by
  intro s
  obtain ⟨t, hstep, -⟩ := step_outcome s
  exact ⟨t, hstep⟩

/-- The four booleans after an executing step: what the opcode makes of IME with the queued enable applied. -/
theorem Completes.int_of_executing {i : Instr} {s t : State} (h : Completes i s.executing t)
    (op : i.opcode = s.nextOpcode) :
    t.int =
      { ime := s.nextOpcode == 0xD9 || (s.int.ime || s.int.eiPending) && s.nextOpcode != 0xF3
        eiPending := s.nextOpcode == 0xFB
        halted := s.nextOpcode == 0x76
        stopped := s.nextOpcode == 0x10 } := by
  rw [h.int, nextInt_eq, op]
  rfl

/-- Settles O17: only a dispatch and an executing step change IME or eiPending, and the opcode says which way. -/
theorem masterEnableChangesOnlyAsListed : Obligations.MasterEnableChangesOnlyAsListed := by
  intro s t hstep
  cases stepOutcome_of_next hstep
  case stuck | idle | illegal => and_intros <;> exact fun before after => nomatch before.symm.trans after
  case dispatch h =>
    refine ⟨fun _ after => (nomatch after), fun _ _ => .inl h, ?_, ?_⟩ <;>
      exact fun before after => nomatch before.symm.trans after
  case execute i h legal op completes =>
    rw [completes.int_of_executing op]
    refine ⟨fun before after => ⟨h, ?_⟩, fun before after => .inr ⟨h, ?_⟩, fun _ after => ⟨h, ?_⟩, fun _ _ => h⟩
    · simp only [before, Bool.false_or, Bool.or_eq_true, Bool.and_eq_true, beq_iff_eq] at after
      exact after.symm.imp_left And.left
    · simp only [before, Bool.true_or, Bool.true_and, Bool.or_eq_false_iff, bne_eq_false_iff_eq] at after
      exact after.2
    · exact beq_iff_eq.mp after

/-- Settles O18: the wakes clear Halted and Stopped as they say, and only an executed opcode sets either. -/
theorem lowPowerStatesChangeOnlyAsListed : Obligations.LowPowerStatesChangeOnlyAsListed := by
  intro s t hstep
  cases stepOutcome_of_next hstep
  case stuck | illegal => and_intros <;> exact fun before after => nomatch before.symm.trans after
  case idle | dispatch =>
    and_intros <;> intro before after <;> simp [State.wokenInt, before] at after
    · exact after
    · exact after
  case execute i h legal op completes =>
    have ⟨_, _, halted, stopped⟩ := h
    rw [completes.int_of_executing op]
    exact ⟨fun _ after => ⟨h, beq_iff_eq.mp after⟩, fun before _ => halted before,
      fun _ after => ⟨h, beq_iff_eq.mp after⟩, fun before _ => stopped before⟩

end Sys2Proof.Machine
end

section
/-! The kinds of step (60_exceptions.md R403 to R422): the host's input, dispatch, idling, the fetch and the wakes,
and the statements about each. -/

namespace Sys2Proof.Machine

/-! ## The host's input (60_exceptions.md R417, R435) -/

theorem lastStored_cons (c : Word × Byte) (l : List (Word × Byte)) (a : Word) (before : Byte) :
    lastStored (c :: l) a before = lastStored l a (if c.1 = a then c.2 else before) := by
  unfold lastStored
  by_cases h : c.1 = a
  · rw [List.filter_cons_of_pos (by simp [h]), List.getLast?_cons, if_pos h]
    cases (l.filter (·.1 == a)).getLast? <;> rfl
  · rw [List.filter_cons_of_neg (by simp [h]), if_neg h]

/-- Storing bytes in order leaves at each address the last byte stored there. -/
theorem read_writeAll {m : Memory} (h : m.wf) (l : List (Word × Byte)) (a : Word) :
    (m.writeAll l).read a.toNat = lastStored l a (m.read a.toNat) := by
  induction l generalizing m with
  | nil => rfl
  | cons c l ih =>
    rw [Memory.writeAll, ih (Memory.wf_write m c.1 c.2 h), lastStored_cons]
    split
    case isTrue hc => rw [hc, Memory.read_write_same m 0 _ _ h]
    case isFalse hc => rw [Memory.read_write_other _ _ _ _ fun e => hc (BitVec.eq_of_toNat_eq e.symm)]

theorem byteAt_beginStep {s : State} (h : s.bus.mem.wf) (a : Word) :
    s.beginStep.byteAt a =
      lastStored s.nextInput.stores a (s.byteAt a) ||| (if a = 0xFF0F then s.nextInput.ifSet else 0) := by
  have stored (b : Word) : (s.pokeAll s.nextInput.stores).byteAt b = lastStored s.nextInput.stores b (s.byteAt b) :=
    read_writeAll h _ b
  rw [← stored]
  split
  case isTrue ha =>
    subst ha
    exact byteAt_pokeByte_same _ _ _ (wf_pokeAll s _ h)
  case isFalse ha =>
    exact (byteAt_pokeByte_other _ _ _ _ ha).trans BitVec.or_zero.symm

/-- With no input left the bytes stay. -/
theorem byteAt_beginStep_noInput {s : State} (h : s.bus.mem.wf) (hi : s.inputs = []) (a : Word) :
    s.beginStep.byteAt a = s.byteAt a := by
  have none : s.nextInput = HostInput.none := by simp [State.nextInput, hi]
  rw [byteAt_beginStep h, none]
  simp [HostInput.none, lastStored]

/-- Settles O10: the input's stores and then its IF bits reach the bytes, and nothing else of the core. -/
theorem hostInputComesBeforeTheStep : Obligations.HostInputComesBeforeTheStep :=
  fun _ h => ⟨byteAt_beginStep h, byteAt_beginStep_noInput h, rfl, rfl, rfl, rfl, rfl, rfl, rfl, rfl⟩

/-! ## The fault (60_exceptions.md R420, R421) -/

/-- Settles O11: a stuck step answers its own state, so that a run of them does. -/
theorem faultedMachineIsStuck : Obligations.FaultedMachineIsStuck := by
  intro s k h
  have stuck : Sys2Proof.core.step s = .next s := step_faulted s h
  refine ⟨stuck, ?_⟩
  induction k with
  | zero => rfl
  | succ k ih => simp only [Host.Core.run, stuck, ih]

theorem fetchLength_illegal : ∀ op ∈ illegalOpcodes, fetchLength op = 1 := by decide

/-- Settles O12: the opcode alone is an illegal instruction, and a step that reads it reads nothing else. -/
theorem illegalOpcodeStopsTheCore : Obligations.IllegalOpcodeStopsTheCore := by
  intro s op (hop : op ∈ illegalOpcodes)
  have length := fetchLength_illegal op hop
  refine ⟨?_, fun h hnext => ?_⟩
  · have opcode : (ofPrimary op 0 0).opcode = op := (opcode_eq_iff length).mpr rfl
    refine ⟨ofPrimary op 0 0, (IsWord.bare length rfl).decode_append [], ?_⟩
    obtain ⟨-, hexec⟩ := exec_illegal (i := ofPrimary op 0 0) (by rwa [opcode])
    rw [hexec, opcode]
    rfl
  · subst hnext
    have bus : s.executing.bus = s.beginStep.bus.perform [.read s.regs.pc s.nextOpcode] := by
      rw [(executing_accesses s).1, length]
      rfl
    rw [step_illegal h hop, ← bus]
    rfl

/-! ## Dispatch (60_exceptions.md R403, R407, R408) -/

theorem lowestPending_spec : ∀ p : Byte, p &&& 0x1F#8 = p → p ≠ 0 →
    lowestPending p < 5 ∧ p.getLsbD (lowestPending p) = true ∧ ∀ j < lowestPending p, p.getLsbD j = false := by decide

/-- Only the five interrupt bits can be pending. -/
theorem sampledPending_masked (s : State) : s.sampledPending &&& 0x1F#8 = s.sampledPending := by
  unfold State.sampledPending State.pending
  rw [BitVec.and_assoc]
  rfl

theorem sub_one_sub_one (w : Word) : w - 1 - 1 = w - 2 := by bv_omega

theorem add_one_add_one (w : Word) : w + 1 + 1 = w + 2 := by bv_omega

/-- The model writes the byte `1 << i` as the number `1 << i` cut to a byte. -/
theorem getLsbD_one_shiftLeft {i : Nat} (hi : i < 8) (j : Nat) : (1 <<< i : Byte).getLsbD j = decide (i = j) := by
  rw [BitVec.natCast_eq_ofNat, BitVec.getLsbD_ofNat, Nat.one_shiftLeft, Nat.testBit_two_pow, Bool.and_eq_right_iff_imp,
    decide_eq_true_iff, decide_eq_true_iff]
  rintro rfl
  exact hi

/-- The direct clear takes one bit off IF and leaves the others. -/
theorem ifView_ifClear_bit {b : Bus} (h : b.mem.wf) {i j : Nat} (hi : i < 8) (hj : j < 8) :
    (b.ifClear i).ifView.getLsbD j = (b.ifView.getLsbD j && j != i) := by
  rw [ifView_ifClear b i h, BitVec.getLsbD_and, BitVec.getLsbD_not, getLsbD_one_shiftLeft hi]
  by_cases e : i = j
  · simp [e]
  · simp [e, hj, Ne.symm e]

/-- On a plain RAM two bytes written to different addresses are there afterwards, and no other byte has changed. -/
theorem Accesses.writesTwo {a b : Word} {v w : Byte} {s t : State} (h : Accesses [.write a v, .write b w] s t)
    (hab : a ≠ b) : Stores a v s t ∧ Stores b w s t ∧ KeepsBytesOutside [a, b] s t := by
  refine ⟨Accesses.stores (l := []) h (by simp [hab]), Accesses.stores (l := [.write a v]) h (by simp),
    h.keepsBytes [a, b] fun x y hx => ?_⟩
  simp only [List.mem_cons, BusAccess.write.injEq, List.not_mem_nil, or_false] at hx ⊢
  exact hx.imp And.left And.left

/-- The two writes of a dispatch, from the bus with the IF bit cleared. -/
theorem dispatch_woken_accesses (s : State) :
    Accesses [.write (s.regs.sp - 1) (hi8 s.regs.pc), .write (s.regs.sp - 2) (lo8 s.regs.pc)]
      (s.beginStep.ifClear (lowestPending s.sampledPending)) (s.woken.dispatch s.sampledPending) := by
  rw [← sub_one_sub_one]
  exact dispatch_accesses s.woken s.sampledPending

/-- Once something is pending the wakes leave Halted false. -/
theorem dispatch_woken_int {s : State} (h : s.sampledPending ≠ 0) :
    (s.woken.dispatch s.sampledPending).int =
      { ime := false, eiPending := s.int.eiPending, halted := false,
        stopped := s.int.stopped && !s.nextInput.stopWake } := by
  rw [dispatch_int, woken_int, State.wokenInt, beq_false_of_ne h, Bool.and_false]

theorem vector_eq (i : Nat) : vector i = BitVec.ofNat 16 (0x40 + 8 * i) := (BitVec.ofNat_add ..).symm

theorem sub_one_ne_sub_two (w : Word) : w - 1 ≠ w - 2 := by bv_omega

/-- The lowest pending bit is the only pending bit with none below it. -/
theorem eq_lowestPending {p : Byte} (hm : p &&& 0x1F#8 = p) (h0 : p ≠ 0) {i : Nat} (hi : p.getLsbD i = true)
    (least : ∀ j < i, p.getLsbD j = false) : i = lowestPending p := by
  obtain ⟨-, pending, lowest⟩ := lowestPending_spec p hm h0
  refine le_antisymm (not_lt.mp fun lt => ?_) (not_lt.mp fun lt => ?_)
  · exact absurd (pending.symm.trans (least _ lt)) (by decide)
  · exact absurd (hi.symm.trans (lowest _ lt)) (by decide)

/-- Settles O13: a dispatch takes the lowest bit of the sampled set, clears it in IF and pushes PC. -/
theorem interruptDispatch : Obligations.InterruptDispatch := by
  refine ⟨fun s h => ⟨_, lowestPending_spec _ (sampledPending_masked s) h.2.2⟩, fun s i h hi pending least => ?_⟩
  have hlow := eq_lowestPending (sampledPending_masked s) h.2.2 pending least
  have accesses := hlow ▸ dispatch_woken_accesses s
  have ifOnly (a : Word) (ha : a ≠ 0xFF0F) := byteAt_ifClear_other s.beginStep i a ha
  obtain ⟨storesHigh, storesLow, keeps⟩ := accesses.writesTwo (sub_one_ne_sub_two _)
  have wf (hw : s.bus.mem.wf) := wf_beginStep s hw
  refine ⟨s.woken.dispatch s.sampledPending, step_dispatch s h, ?vector, ?sp, ?reg8, ?tick, ?cost, ?fault, rfl, rfl,
    dispatch_woken_int h.2.2, accesses, ?frame, fun hp hw => storesHigh hp (wf_ifClear _ _ (wf hw)),
    fun hp hw => storesLow hp (wf_ifClear _ _ (wf hw)), ifOnly,
    fun hw j hj => ifView_ifClear_bit (wf hw) (by omega) hj, fun hp hother => keeps hp _ hother⟩
  case vector => rw [dispatch_pc, ← hlow, vector_eq]
  case sp => rw [dispatch_sp, woken_regs, sub_one_sub_one]
  case reg8 => exact fun q _ => (r8_dispatch ..).trans (r8_woken s q)
  case tick => exact woken_dispatch_tick s _
  case cost => exact woken_dispatch_cost s _
  case fault => rw [dispatch_fault, woken_fault, h.1]
  case frame =>
    intro hp a ha
    have other : a ≠ 0xFF0F := by
      rintro rfl
      exact ha (by simp)
    rw [keeps hp a fun hm => ha (List.mem_append_left [0xFF0F] hm), ifOnly a other]

/-! ## Idling, and the cost of every step (60_exceptions.md R409, R412) -/

/-- Settles O14: an idling step is the wakes and a charge of 4. -/
theorem idleStep : Obligations.IdleStep := by
  intro s h
  refine ⟨s.woken.idle, step_idle s h, rfl, woken_idle_tick s, woken_idle_cost s, ?_, rfl, rfl, .none rfl, rfl⟩
  rw [idle_fault, woken_fault, h.1]

/-- The word of any instruction begins with its opcode. -/
theorem encode_eq_cons (i : Instr) : ∃ tail, encode i = i.opcode :: tail := by
  cases hwf : i.wf
  case false =>
    cases i
    case prefixCB sub => exact ⟨[sub], rfl⟩
    all_goals nomatch hwf
  case true =>
    obtain ⟨tail, henc, -⟩ := encode_eq_opcode_cons hwf
    exact ⟨tail, henc⟩

theorem baseCost_bounds : ∀ op : Byte, op ∉ illegalOpcodes → op ≠ 0xCB →
    4 ≤ baseCost op ∧ baseCost op + takenBonus op ≤ 24 := by decide

theorem cbBase_bounds : ∀ sub : Byte, 4 ≤ cbBase sub ∧ cbBase sub ≤ 24 := by decide

theorem Completes.cost_bounds {i : Instr} {s t : State} (h : Completes i s t) (legal : i.opcode ∉ illegalOpcodes) :
    4 ≤ t.scratch.cost ∧ t.scratch.cost ≤ 24 := by
  obtain ⟨tail, henc⟩ := encode_eq_cons i
  rw [h.cost, h.extra, henc, tableCost]
  by_cases lead : i.opcode = 0xCB
  · have cb := cbBase_bounds (tail.headD 0)
    have base : baseCost 0xCB = 0 := rfl
    have bonus : takenBonus 0xCB = 0 := rfl
    rw [lead, base, bonus]
    simpa using cb
  · have base := baseCost_bounds _ legal lead
    simp only [lead, if_false]
    split <;> omega

/-- Settles O19: a dispatch costs 20, an idling step 4, and an instruction what the tables and its bonus give. -/
theorem tickAdvancesByStepCost : Obligations.TickAdvancesByStepCost := by
  have advance (x : Word) (c : Nat) : (x + BitVec.ofNat 16 c).toNat = (x.toNat + c) % 65536 := by
    rw [BitVec.toNat_add, BitVec.toNat_ofNat]
    omega
  intro s t hstep
  cases stepOutcome_of_next hstep
  case stuck h => exact ⟨fun h' => absurd h' h, fun _ => rfl⟩
  case illegal h op => exact ⟨fun h' => (nomatch h'), fun _ => rfl⟩
  case dispatch h =>
    refine ⟨fun _ => ⟨advance _ _, ?_⟩, fun h' => absurd h.1 h'⟩
    rw [woken_dispatch_cost]
    decide
  case idle h =>
    refine ⟨fun _ => ⟨advance _ _, ?_⟩, fun h' => absurd h.1 h'⟩
    rw [woken_idle_cost]
    decide
  case execute i h legal op completes =>
    refine ⟨fun _ => ⟨?_, completes.cost_mod, completes.cost_bounds (op ▸ legal)⟩,
      fun h' => absurd (completes.fault.trans h.1) h'⟩
    rw [completes.tick]
    exact advance _ _

/-- A fetch makes as many accesses as the format has bytes. -/
theorem fetchReads_length_le (s : State) (k : Nat) : (s.fetchReads k).length ≤ 3 :=
  (List.length_take_le' ..).trans (by rfl)

/-- Settles O21: two data accesses beside three reads of a fetch, or a dispatch's two writes. -/
theorem accessesOfAStepAreBounded : Obligations.AccessesOfAStepAreBounded := by
  refine ⟨fun i s t hexec => ?_, fun s t hstep hs => ?_⟩
  · obtain ⟨l, accesses, length⟩ : ∃ l, Accesses l s t ∧ l.length ≤ 2 := by
      obtain ⟨-, rfl⟩ | ⟨-, completes⟩ := exec_next_cases hexec
      · exact ⟨[], .none rfl, by simp⟩
      · exact completes.accesses
    exact ⟨l, accesses, length, fun noWrite => accesses.keepsBytes [] fun a v hw => absurd hw (noWrite a v)⟩
  · have fetch : s.executing.bus.trace.length ≤ 3 := by
      rw [(executing_accesses s).2]
      exact fetchReads_length_le ..
    cases stepOutcome_of_next hstep
    case stuck h => exact absurd hs h
    case dispatch h =>
      rw [(dispatch_woken_accesses s).2]
      exact Nat.le_add_left 2 3
    case idle h => exact Nat.zero_le 5
    case illegal h op => exact fetch.trans (by decide)
    case execute i h legal op completes =>
      obtain ⟨l, accesses, length⟩ := completes.accesses
      rw [accesses.2, List.length_append]
      omega

/-! ## Executing steps (60_exceptions.md R404 to R406, R410, R411) -/

/-- Decoding all that a fetch could read gives the instruction of the bytes it does read. -/
theorem decode_nextBytes (s : State) :
    ∃ i, decode s.nextBytes = .ok (i, s.nextBytes.drop (fetchLength s.nextOpcode)) ∧
      decode (s.nextBytes.take (fetchLength s.nextOpcode)) = .ok (i, []) := by
  obtain ⟨i, hall, htake⟩ := decode_three s.nextOpcode
    ((s.beginStep.bus.afterRead s.regs.pc).readByte (s.regs.pc + 1))
    (((s.beginStep.bus.afterRead s.regs.pc).afterRead (s.regs.pc + 1)).readByte (s.regs.pc + 2)) []
  rw [List.append_nil] at hall
  exact ⟨i, hall, htake⟩

/-- Settles O9: the state handed to `exec` is `executing`, and three bytes hold any instruction. -/
theorem stepRunsDecodedInstruction : Obligations.StepRunsDecodedInstruction := by
  intro s i rest h hdec
  obtain ⟨j, hall, htake⟩ := decode_nextBytes s
  obtain ⟨k, t, htake', hexec, hstep⟩ := step_execute s h
  obtain ⟨rfl, rfl⟩ := Prod.mk.inj (Except.ok.inj (hdec.symm.trans hall))
  obtain ⟨rfl, -⟩ := Prod.mk.inj (Except.ok.inj (htake.symm.trans htake'))
  have length : 3 - (s.nextBytes.drop (fetchLength s.nextOpcode)).length = fetchLength s.nextOpcode := by
    have three : s.nextBytes.length = 3 := rfl
    have le := fetchLength_le s.nextOpcode
    rw [List.length_drop, three]
    omega
  rw [length]
  exact ⟨s.executing, rfl, rfl, h.1, rfl, rfl, rfl, executing_accesses s, t, hexec, fun hf => by simp [hstep, hf]⟩

/-- Settles O15: with IME false the wake leads to the fetch, which does not look at Halted. -/
theorem haltWakesWithoutService : Obligations.HaltWakesWithoutService := by
  intro s hfault halted stopped ime pending legal
  have h : s.Executes := ⟨hfault, by simp [ime], fun _ => pending, by simp [stopped]⟩
  have running : ({ s with int := { s.int with halted := false } } : State).Executes :=
    ⟨hfault, by simp [ime], by simp, by simp [stopped]⟩
  obtain ⟨i, t, op, hdec, hexec, hstep, completes⟩ := step_legal h legal
  obtain ⟨j, u, -, hdec', hexec', hstep', -⟩ := step_legal running legal
  obtain ⟨rfl, -⟩ := Prod.mk.inj (Except.ok.inj (hdec.symm.trans hdec'))
  refine ⟨h, ?_, t, hstep, ?_⟩
  · exact hstep.trans (hexec.symm.trans (hexec'.trans hstep'.symm))
  · rw [completes.int_of_executing op]
    exact beq_iff_eq

/-- Settles O16: the enable is applied before the fetch, and only DI's and EI's opcodes undo or renew it. -/
theorem queuedEnableTakesEffectOneStepLater : Obligations.QueuedEnableTakesEffectOneStepLater := by
  intro s hfault ime queued halted stopped legal
  have h : s.Executes := ⟨hfault, by simp [ime], by simp [halted], by simp [stopped]⟩
  obtain ⟨i, t, op, -, -, hstep, completes⟩ := step_legal h legal
  refine ⟨h, t, hstep, ?_, ?_⟩ <;> rw [completes.int_of_executing op]
  · have reti : s.nextOpcode = 0xD9 → s.nextOpcode ≠ 0xF3 := by
      rintro e
      rw [e]
      decide
    simpa [queued] using reti
  · exact beq_iff_eq

/-! ## Placing an instruction where the step fetches -/

theorem pokeBytes_regs (s : State) (a : Word) (l : List Byte) : (s.pokeBytes a l).regs = s.regs := by
  induction l generalizing s a with
  | nil => rfl
  | cons v l ih => exact ih _ _

theorem wf_pokeBytes {s : State} (h : s.bus.mem.wf) (a : Word) (l : List Byte) : (s.pokeBytes a l).bus.mem.wf := by
  induction l generalizing s a with
  | nil => exact h
  | cons v l ih => exact ih (wf_pokeByte s a v h) _

/-- Three bytes placed in a row read back. -/
theorem byteAt_pokeBytes_three {s : State} (h : s.bus.mem.wf) (a : Word) (x y z : Byte) :
    (s.pokeBytes a [x, y, z]).byteAt a = x ∧ (s.pokeBytes a [x, y, z]).byteAt (a + 1) = y ∧
      (s.pokeBytes a [x, y, z]).byteAt (a + 2) = z := by
  have wx := wf_pokeByte s a x h
  have wy := wf_pokeByte _ (a + 1) y wx
  simp only [State.pokeBytes, add_one_add_one]
  refine ⟨?_, ?_, byteAt_pokeByte_same _ _ _ wy⟩
  · rw [byteAt_pokeByte_other _ _ _ _ (by bv_omega), byteAt_pokeByte_other _ _ _ _ (by bv_omega),
      byteAt_pokeByte_same _ _ _ h]
  · rw [byteAt_pokeByte_other _ _ _ _ (by bv_omega), byteAt_pokeByte_same _ _ _ wx]

/-- On a plain RAM the reads of a fetch give the bytes at PC. -/
theorem bytesAtPc_plain {s : State} (h : s.bus.answers = []) :
    s.bytesAtPc = [s.byteAt s.regs.pc, s.byteAt (s.regs.pc + 1), s.byteAt (s.regs.pc + 2)] := by
  have h1 := afterRead_answers_plain s.bus s.regs.pc h
  have h2 := afterRead_answers_plain _ (s.regs.pc + 1) h1
  simp only [State.bytesAtPc, readByte_plain _ _ h, readByte_plain _ _ h1, readByte_plain _ _ h2,
    afterRead_mem_plain _ _ h, afterRead_mem_plain _ _ h1, State.byteAt]

theorem tableWordBytes_three (nbits w : Nat) : ∃ x y z, tableWordBytes nbits w = [x, y, z] := by
  simp only [tableWordBytes]
  split
  · exact ⟨_, _, _, rfl⟩
  · exact ⟨_, _, _, rfl⟩

theorem decode_of_decodeTableWord {nbits w : Nat} {i : Instr} (h : decodeTableWord nbits w = some i) :
    ∃ rest, decode (tableWordBytes nbits w) = .ok (i, rest) := by
  unfold decodeTableWord at h
  split at h
  · rename_i j rest hdec
    cases h
    exact ⟨rest, hdec⟩
  · nomatch h

/-- Settles O22: the placed bytes read back through a fetch, and nothing pending, stuck or idle stands in its way. -/
theorem fetchWordIsWhatTheNextStepRuns : Obligations.FetchWordIsWhatTheNextStepRuns := by
  intro s nbits w i hw hword
  obtain ⟨rest, hdec⟩ := decode_of_decodeTableWord hword
  have regs : (s.withFetchWord nbits w).regs = s.regs := pokeBytes_regs s _ _
  have bytes (a : Word) : (s.withFetchWord nbits w).beginStep.byteAt a =
      (s.pokeBytes s.regs.pc (tableWordBytes nbits w)).byteAt a :=
    byteAt_beginStep_noInput (s := s.withFetchWord nbits w) (wf_pokeBytes hw _ _) rfl a
  refine ⟨⟨rfl, fun ime => ?_, fun halted => (nomatch halted), fun stopped => (nomatch stopped)⟩, regs, rest, ?_⟩
  · have pending : (s.withFetchWord nbits w).sampledPending =
        (s.pokeBytes s.regs.pc (tableWordBytes nbits w)).pending :=
      congrArg₂ (fun x y => x &&& y &&& 0x1F) (bytes ieAddr) (bytes ifAddr)
    rw [pending]
    exact beq_iff_eq.mp (Bool.and_eq_true_iff.mp ime).2
  · obtain ⟨x, y, z, hthree⟩ := tableWordBytes_three nbits w
    obtain ⟨hx, hy, hz⟩ := byteAt_pokeBytes_three hw s.regs.pc x y z
    rw [State.nextBytes, bytesAtPc_plain rfl, beginStep_regs, regs, bytes, bytes, bytes, hthree, hx, hy, hz, ← hthree,
      hdec]

end Sys2Proof.Machine
end

section
/-! Stores (40_load8.md R143 to R158, 41_load16.md R181): what a write, or a read and a write of one byte, does as a
whole instruction, and the statements of these families. -/

namespace Sys2Proof

/-- The opcodes `01 110 zzz` have no immediate. -/
theorem formatOf_storeAtHL : ∀ z : BitVec 3, formatOf (0b01110#5 ++ z) = .P1 := by decide

end Sys2Proof

namespace Sys2Proof.Machine

/-! ## A store as a whole instruction -/

section

variable {rs : List Reg8} {a : Word} {v : Byte} {len : Nat} {h : State → State} {s : State}

/-- The frame of an instruction whose handler writes the byte at `a` and then registers alone. -/
theorem complete_writesOnly_write (base : Nat) (hl : len ≤ 3)
    (hh : WritesOnly rs ((s.fetched len).memWrite a v) (h (s.fetched len))) :
    Stores a v s (complete len base h s) ∧ KeepsBytesOutside [a] s (complete len base h s) ∧
      OnlyReg8 rs s (complete len base h s) ∧ Accesses [.write a v] s (complete len base h s) ∧
      Advances len base s (complete len base h s) := by
  obtain ⟨frame, advance⟩ := complete_writesOnly_onBus (b := s.bus.afterWrite a v) base hl hh
  obtain ⟨accesses, stores, bytes⟩ := complete_stores a v len base h s hh.rest.bus
  exact ⟨stores, bytes, frame, accesses, advance⟩

/-- The frame of an instruction whose handler reads the byte at `a`, writes it, and then registers alone. -/
theorem complete_writesOnly_modify (base : Nat) (hl : len ≤ 3)
    (hh : WritesOnly rs (((s.fetched len).memRead a).2.memWrite a v) (h (s.fetched len))) :
    Stores a v s (complete len base h s) ∧ KeepsBytesOutside [a] s (complete len base h s) ∧
      OnlyReg8 rs s (complete len base h s) ∧
      Accesses [.read a (s.readByte a), .write a v] s (complete len base h s) ∧
      Advances len base s (complete len base h s) := by
  obtain ⟨frame, advance⟩ := complete_writesOnly_onBus (b := (s.bus.afterRead a).afterWrite a v) base hl hh
  obtain ⟨accesses, stores, bytes⟩ := complete_modifies a v len base h s hh.rest.bus
  exact ⟨stores, bytes, frame, accesses, advance⟩

end

/-! ## Stores of a register or an immediate -/

theorem storeAtHL_form {z : BitVec 3} {r : Reg8} (hz : RegField z r) :
    ∃ i, (∀ rest, decode ((0b01110#5 ++ z) :: rest) = .ok (i, rest)) ∧ ∀ s, exec i s = done 1 8 (storeAtHL r) s := by
  refine ⟨_, decode_of_P1 (formatOf_storeAtHL z), fun s => ?_⟩
  cases hz <;> rfl

/-- Each addressed store of A runs a handler that is `storeA` at the address its row gives. -/
theorem ldAddressedA_form {n : Byte} {nn : Word} {s : State} {load store : Byte} {operand : List Byte} {a : Word}
    {len cost : Nat} (hf : (load, store, operand, a, len, cost) ∈ addressedForms s n nn) (rest : List Byte) :
    ∃ i h, decode (store :: (operand ++ rest)) = .ok (i, rest) ∧ exec i s = done len cost h s ∧ len ≤ 3 ∧
      h (s.fetched len) = storeA a (s.fetched len) := by
  simp only [addressedForms, ← highPage_eq_cat16, List.mem_cons, List.not_mem_nil, or_false, Prod.mk.injEq] at hf
  rcases hf with ⟨-, rfl, rfl, rfl, rfl, rfl⟩ | ⟨-, rfl, rfl, rfl, rfl, rfl⟩ | ⟨-, rfl, rfl, rfl, rfl, rfl⟩ |
    ⟨-, rfl, rfl, rfl, rfl, rfl⟩ | ⟨-, rfl, rfl, rfl, rfl, rfl⟩
  · exact ⟨.ldAtBCA, _, decode_of_P1 (by decide) rest, rfl, by decide, rfl⟩
  · exact ⟨.ldAtDEA, _, decode_of_P1 (by decide) rest, rfl, by decide, rfl⟩
  · exact ⟨.ldAtA16A a, _, decode_of_P3 (by decide) a rest, rfl, by decide, rfl⟩
  · exact ⟨.ldhAtA8A n, _, decode_of_P2 (by decide) n rest, rfl, by decide, rfl⟩
  · exact ⟨.ldAtCA, _, decode_of_P1 (by decide) rest, rfl, by decide, rfl⟩

/-- Settles O27: the seven register fields run `storeAtHL`, and the immediate form one write at HL. -/
theorem storeToMemoryAtHL : Obligations.StoreToMemoryAtHL := by
  refine ⟨fun z r rest s hz => ?register, fun n rest s => ?immediate⟩
  case register =>
    obtain ⟨i, hdec, hexec⟩ := storeAtHL_form (regField_of_ofField hz)
    exact ⟨i, _, hdec rest, hexec s, complete_writesOnly_write 8 (by decide) (.refl [] _)⟩
  case immediate =>
    exact ⟨.ldAtHLd8 n, _, decode_of_P2 (by decide) n rest, rfl,
      complete_writesOnly_write 12 (by decide) (.refl [] _)⟩

/-- Settles O29: each of the five rows runs `storeA` at its address. -/
theorem storeAToAddress : Obligations.StoreAToAddress := by
  intro n nn rest s load store operand a len cost hf
  obtain ⟨i, h, hdec, hexec, hlen, hstore⟩ := ldAddressedA_form hf rest
  exact ⟨i, _, hdec, hexec, complete_writesOnly_write cost hlen (by rw [hstore]; exact .refl [] _)⟩

/-! ## Loads and stores that step HL -/

theorem storeAThenStep_writesOnly (w : Word) (s : State) :
    WritesOnly [.H, .L] (s.memWrite s.regs.hl (s.r8 .A)) (storeAThenStep w s) :=
  setR16_writesOnly (rr := .HL) (by decide) (by decide) (by decide) _ _

theorem loadAThenStep_writesOnly (w : Word) (s : State) :
    WritesOnly [.A, .H, .L] (s.memRead s.regs.hl).2 (loadAThenStep w s) :=
  (setR8_writesOnly (by decide) _ _).trans (setR16_writesOnly (rr := .HL) (by decide) (by decide) (by decide) _ _)

theorem A_loadAThenStep (w : Word) (s : State) : (loadAThenStep w s).r8 .A = s.readByte s.regs.hl := by
  simp [loadAThenStep, loadFrom, Reg16.views]

/-- LD (HL±),A as a whole instruction. -/
theorem complete_storeAThenStep (w : Word) (s : State) :
    Stores s.regs.hl (s.r8 .A) s (complete 1 8 (storeAThenStep w) s) ∧
      KeepsBytesOutside [s.regs.hl] s (complete 1 8 (storeAThenStep w) s) ∧
      (complete 1 8 (storeAThenStep w) s).regs.hl = s.regs.hl + w ∧
      OnlyReg8 [.H, .L] s (complete 1 8 (storeAThenStep w) s) ∧
      Accesses [.write s.regs.hl (s.r8 .A)] s (complete 1 8 (storeAThenStep w) s) ∧
      Advances 1 8 s (complete 1 8 (storeAThenStep w) s) := by
  obtain ⟨stores, bytes, frame, accesses, advance⟩ :=
    complete_writesOnly_write (s := s) 8 (by decide) (storeAThenStep_writesOnly w (s.fetched 1))
  exact ⟨stores, bytes, r16_complete (q := .HL) _ _ _ _ (by decide), frame, accesses, advance⟩

/-- LD A,(HL±) as a whole instruction. -/
theorem complete_loadAThenStep (w : Word) (s : State) :
    (complete 1 8 (loadAThenStep w) s).r8 .A = s.readByte s.regs.hl ∧
      KeepsBytesOutside [] s (complete 1 8 (loadAThenStep w) s) ∧
      (complete 1 8 (loadAThenStep w) s).regs.hl = s.regs.hl + w ∧
      OnlyReg8 [.A, .H, .L] s (complete 1 8 (loadAThenStep w) s) ∧
      Accesses [.read s.regs.hl (s.readByte s.regs.hl)] s (complete 1 8 (loadAThenStep w) s) ∧
      Advances 1 8 s (complete 1 8 (loadAThenStep w) s) := by
  obtain ⟨frame, bytes, accesses, advance⟩ :=
    complete_writesOnly_read (s := s) 8 (by decide) (loadAThenStep_writesOnly w (s.fetched 1))
  exact ⟨(r8_complete ..).trans (A_loadAThenStep _ _), bytes, r16_complete (q := .HL) _ _ _ _ (by decide), frame,
    accesses, advance⟩

/-- Settles O30: both directions run the handlers that step HL, by 1 or by -1. -/
theorem loadAndStoreWithHLStep : Obligations.LoadAndStoreWithHLStep := by
  intro down rest s
  cases down
  case false =>
    exact ⟨⟨.ldAtHLIncA, _, decode_of_P1 (by decide) rest, rfl, complete_storeAThenStep 1 s⟩,
      ⟨.ldAAtHLInc, _, decode_of_P1 (by decide) rest, rfl, complete_loadAThenStep 1 s⟩⟩
  case true =>
    simp only [if_true, sub_eq_add_neg]
    exact ⟨⟨.ldAtHLDecA, _, decode_of_P1 (by decide) rest, rfl, complete_storeAThenStep (-1) s⟩,
      ⟨.ldAAtHLDec, _, decode_of_P1 (by decide) rest, rfl, complete_loadAThenStep (-1) s⟩⟩

/-- Settles O32: SP's bytes go to two addresses in a row, the low byte first. -/
theorem storeStackPointer : Obligations.StoreStackPointer := by
  intro nn rest s
  obtain ⟨accesses, low, high, bytes⟩ := complete_storesTwo nn (nn + 1) (lo8 s.regs.sp) (hi8 s.regs.sp) 3 20
    (storeSP nn) s (add_one_ne nn) rfl
  refine ⟨.ldAtA16SP nn, _, decode_of_P3 (by decide) nn rest, rfl, low, high, bytes, ?_, accesses, ?_⟩
  · exact complete_onlyReg8 [] _ _ _ _ (fun _ _ => rfl) rfl rfl rfl rfl rfl
  · exact complete_advances _ _ _ _ (by decide) rfl rfl rfl

end Sys2Proof.Machine
end

section
/-! Instructions that read an operand and write it back (42_alu8.md R245, R247; 44_rotate_shift_bit.md R284 to R306):
INC and DEC of the byte at HL, the rotates and shifts of the CB space, RES and SET, and the statements about them. -/

namespace Sys2Proof.Machine

/-! ## INC (HL) and DEC (HL) -/

theorem incAtHL_writesOnly (s : State) :
    WritesOnly [.F] ((s.memRead s.regs.hl).2.memWrite s.regs.hl (s.readByte s.regs.hl + 1)) (incOperand .atHL s) :=
  threeFlags_writesOnly (by decide) _ _ _ _ _ _ _

theorem decAtHL_writesOnly (s : State) :
    WritesOnly [.F] ((s.memRead s.regs.hl).2.memWrite s.regs.hl (s.readByte s.regs.hl - 1)) (decOperand .atHL s) :=
  threeFlags_writesOnly (by decide) _ _ _ _ _ _ _

theorem F_incAtHL (s : State) :
    (incOperand .atHL s).r8 .F = flagByte (s.readByte s.regs.hl + 1 == 0) false
      (decide ((s.readByte s.regs.hl).toNat % 16 = 15)) (s.flag .C) := by
  simp [incOperand, State.readOperand, State.writeOperand, F_setFlag, lowNibble_beq]

theorem F_decAtHL (s : State) :
    (decOperand .atHL s).r8 .F = flagByte (s.readByte s.regs.hl - 1 == 0) true
      (decide ((s.readByte s.regs.hl).toNat % 16 = 0)) (s.flag .C) := by
  simp [decOperand, State.readOperand, State.writeOperand, F_setFlag, lowNibble_beq]

/-- Settles O41: both read the byte at HL, write it one up or one down, and then Z, N and H. -/
theorem incrementAndDecrementMemory : Obligations.IncrementAndDecrementMemory := by
  rintro v res rest s rfl
  refine ⟨fun hres => ?inc, fun hres => ?dec⟩
  case inc =>
    obtain rfl : res = s.readByte s.regs.hl + 1 := by
      rw [hres, BitVec.ofNat_add, BitVec.ofNat_toNat, BitVec.setWidth_eq]
      rfl
    obtain ⟨stores, bytes, frame, accesses, advance⟩ :=
      complete_writesOnly_modify (s := s) 12 (by decide) (incAtHL_writesOnly (s.fetched 1))
    exact ⟨.incAtHL, _, decode_of_P1 (by decide) rest, rfl, stores, bytes, (r8_complete ..).trans (F_incAtHL _), frame,
      accesses, advance⟩
  case dec =>
    obtain rfl : res = s.readByte s.regs.hl - 1 := by
      rw [hres, ofInt_sub, ofInt_toNat]
      rfl
    obtain ⟨stores, bytes, frame, accesses, advance⟩ :=
      complete_writesOnly_modify (s := s) 12 (by decide) (decAtHL_writesOnly (s.fetched 1))
    exact ⟨.decAtHL, _, decode_of_P1 (by decide) rest, rfl, stores, bytes, (r8_complete ..).trans (F_decAtHL _), frame,
      accesses, advance⟩

/-! ## The rotates and shifts of the CB space -/

/-- The rows of the rotate and shift field's table (30_encoding.md R111). -/
inductive ShiftField : BitVec 3 → ShiftOp → Prop
  | rlc : ShiftField 0 .rlc
  | rrc : ShiftField 1 .rrc
  | rl : ShiftField 2 .rl
  | rr : ShiftField 3 .rr
  | sla : ShiftField 4 .sla
  | sra : ShiftField 5 .sra
  | swap : ShiftField 6 .swap
  | srl : ShiftField 7 .srl

theorem shiftReg_form {y z : BitVec 3} {op : ShiftOp} {r : Reg8} (hy : ShiftField y op) (hz : RegField z r) :
    ∃ i, (∀ rest, decode (0xCB :: (0b00#2 ++ y ++ z) :: rest) = .ok (i, rest)) ∧
      ∀ s, exec i s = done 2 8 (shiftOperand op (.reg r)) s := by
  refine ⟨_, decode_of_CB2 _, fun s => ?_⟩
  cases hy <;> cases hz <;> rfl

theorem shiftAtHL_form {y : BitVec 3} {op : ShiftOp} (hy : ShiftField y op) :
    ∃ i, (∀ rest, decode (0xCB :: (0b00#2 ++ y ++ 0b110#3) :: rest) = .ok (i, rest)) ∧
      ∀ s, exec i s = done 2 16 (shiftOperand op .atHL) s := by
  refine ⟨_, decode_of_CB2 _, fun s => ?_⟩
  cases hy <;> rfl

theorem r8_shiftReg (op : ShiftOp) {r : Reg8} (hr : r ≠ .F) (s : State) :
    (shiftOperand op (.reg r) s).r8 r = (op.eval (s.r8 r) (s.flag .C)).1 := by
  simp [shiftOperand, State.readOperand, State.writeOperand, hr]

theorem F_shiftOperand (op : ShiftOp) (o : Operand8) (s : State) :
    (shiftOperand op o s).r8 .F =
      flagByte ((op.eval (s.readOperand o).1 (s.flag .C)).1 == 0) false false
        (op.eval (s.readOperand o).1 (s.flag .C)).2 :=
  F_setFlags ..

theorem shiftReg_writesOnly (op : ShiftOp) (r : Reg8) (s : State) :
    WritesOnly [r, .F] s (shiftOperand op (.reg r) s) :=
  (setR8_writesOnly (by simp) s _).trans (setFlags_writesOnly (by simp) _ _ _ _ _)

theorem shiftAtHL_writesOnly (op : ShiftOp) (s : State) :
    WritesOnly [.F]
      ((s.memRead s.regs.hl).2.memWrite s.regs.hl (op.eval (s.readByte s.regs.hl) (s.flag .C)).1)
      (shiftOperand op .atHL s) :=
  setFlags_writesOnly (by decide) _ _ _ _ _

/-- A CB rotate or shift does to its operand what `eval` does to a byte, so a claim about it is one about bytes. -/
theorem cbShiftForms_of_eval {y : BitVec 3} {op : ShiftOp} {result : Nat → Nat → Nat} {carry : Nat → Bool}
    (hy : ShiftField y op) (hr : ∀ v cin, (op.eval v cin).1.toNat = result v.toNat cin.toNat)
    (hc : ∀ v cin, (op.eval v cin).2 = carry v.toNat) : CbShiftForms y result carry := by
  refine ⟨fun z r rest s hz => ?register, fun v res rest s hv hres => ?memory⟩
  case register =>
    have hF := ofField_ne_F hz
    obtain ⟨i, hdec, hexec⟩ := shiftReg_form hy (regField_of_ofField hz)
    have value : (complete 2 8 (shiftOperand op (.reg r)) s).r8 r = (op.eval (s.r8 r) (s.flag .C)).1 :=
      (r8_complete ..).trans (r8_shiftReg op hF _)
    refine ⟨i, _, hdec rest, hexec s, ?_, ?_, complete_writesOnly 8 (by decide) (shiftReg_writesOnly op r _)⟩
    · rw [value, hr]
    · rw [value, ← hc _ (s.flag .C)]
      exact (r8_complete ..).trans (F_shiftOperand op (.reg r) _)
  case memory =>
    subst hv
    obtain ⟨i, hdec, hexec⟩ := shiftAtHL_form hy
    obtain rfl : res = (op.eval (s.readByte s.regs.hl) (s.flag .C)).1 :=
      BitVec.eq_of_toNat_eq (hres.trans (hr _ _).symm)
    obtain ⟨stores, bytes, frame, accesses, advance⟩ :=
      complete_writesOnly_modify (s := s) 16 (by decide) (shiftAtHL_writesOnly op (s.fetched 2))
    refine ⟨i, _, hdec rest, hexec s, stores, bytes, ?_, frame, accesses, advance⟩
    rw [← hc _ (s.flag .C)]
    exact (r8_complete ..).trans (F_shiftOperand op .atHL _)

/-! ## The shifts as numbers (44_rotate_shift_bit.md R293 to R300) -/

theorem sla_toNat (v : Byte) (cin : Bool) : (ShiftOp.sla.eval v cin).1.toNat = 2 * v.toNat % 256 := by
  have shifted : (v <<< 1).toNat = v.toNat <<< 1 % 256 := BitVec.toNat_shiftLeft
  rw [Nat.shiftLeft_eq, pow_one, mul_comm] at shifted
  exact shifted

/-- SRA brings in bit 7 itself. -/
theorem sra_toNat (v : Byte) (cin : Bool) :
    (ShiftOp.sra.eval v cin).1.toNat = v.toNat / 2 + 128 * (v.toNat / 128) := by
  have sign : ∀ w : Byte, w &&& 0x80 = boolToByte (w.getLsbD 7) <<< 7 := by decide
  rw [← toNat_getLsbD_seven, ← shiftRight_or_bit_toNat, ← sign]
  rfl

theorem srl_toNat (v : Byte) (cin : Bool) : (ShiftOp.srl.eval v cin).1.toNat = v.toNat / 2 := by
  have shifted : (v >>> 1).toNat = v.toNat >>> 1 := BitVec.toNat_ushiftRight ..
  rw [Nat.shiftRight_eq_div_pow, pow_one] at shifted
  exact shifted

theorem swap_toNat (v : Byte) (cin : Bool) :
    (ShiftOp.swap.eval v cin).1.toNat = v.toNat % 16 * 16 + v.toNat / 16 := by
  have nibbles : ∀ w : Byte, ((w &&& 0x0F) <<< 4 ||| w >>> 4).toNat = w.toNat % 16 * 16 + w.toNat / 16 := by decide
  exact nibbles v

/-- Settles O48: the four rotates as `eval` computes them. -/
theorem cbRotates : Obligations.CbRotates :=
  ⟨cbShiftForms_of_eval .rlc rlc_toNat fun v _ => getLsbD_seven_eq_decide v,
    cbShiftForms_of_eval .rrc rrc_toNat fun v _ => getLsbD_zero_eq_decide v,
    cbShiftForms_of_eval .rl rl_toNat fun v _ => getLsbD_seven_eq_decide v,
    cbShiftForms_of_eval .rr rr_toNat fun v _ => getLsbD_zero_eq_decide v⟩

/-- Settles O49: the three shifts as `eval` computes them. -/
theorem cbShifts : Obligations.CbShifts :=
  ⟨cbShiftForms_of_eval .sla sla_toNat fun v _ => getLsbD_seven_eq_decide v,
    cbShiftForms_of_eval .sra sra_toNat fun v _ => getLsbD_zero_eq_decide v,
    cbShiftForms_of_eval .srl srl_toNat fun v _ => getLsbD_zero_eq_decide v⟩

/-- Settles O50: SWAP shifts no bit out. -/
theorem swapNibbles : Obligations.SwapNibbles := cbShiftForms_of_eval .swap swap_toNat fun _ _ => rfl

/-! ## RES and SET -/

/-- A byte with bit `b` written. -/
def withBit (set : Bool) (b : Nat) (v : Byte) : Byte :=
  if set then v ||| (1 <<< b : Byte) else v &&& ~~~(1 <<< b : Byte)

theorem getLsbD_withBit (set : Bool) {b : Nat} (hb : b < 8) (v : Byte) {j : Nat} (hj : j < 8) :
    (withBit set b v).getLsbD j = if j = b then set else v.getLsbD j := by
  cases set
  case false =>
    simp only [withBit, Bool.false_eq_true, if_false, BitVec.getLsbD_and, BitVec.getLsbD_not, getLsbD_one_shiftLeft hb]
    by_cases e : j = b
    · simp [e]
    · simp [e, hj, Ne.symm e]
  case true =>
    simp only [withBit, if_true, BitVec.getLsbD_or, getLsbD_one_shiftLeft hb]
    by_cases e : j = b
    · simp [e]
    · simp [e, Ne.symm e]

/-- RES and SET as one handler. -/
def writeBit (set : Bool) (b : Nat) (o : Operand8) (s : State) : State :=
  (s.readOperand o).2.writeOperand o (withBit set b (s.readOperand o).1)

theorem writeBitReg_form (set : Bool) (b : BitVec 3) {z : BitVec 3} {r : Reg8} (hz : RegField z r) :
    ∃ i, (∀ rest, decode (0xCB :: ((if set then 0b11#2 else 0b10#2) ++ b ++ z) :: rest) = .ok (i, rest)) ∧
      ∀ s, exec i s = done 2 8 (writeBit set b.toNat (.reg r)) s := by
  refine ⟨_, decode_of_CB2 _, fun s => ?_⟩
  cases set <;> fin_cases b <;> cases hz <;> rfl

theorem writeBitAtHL_form (set : Bool) (b : BitVec 3) :
    ∃ i, (∀ rest, decode (0xCB :: ((if set then 0b11#2 else 0b10#2) ++ b ++ 0b110#3) :: rest) = .ok (i, rest)) ∧
      ∀ s, exec i s = done 2 16 (writeBit set b.toNat .atHL) s := by
  refine ⟨_, decode_of_CB2 _, fun s => ?_⟩
  cases set <;> fin_cases b <;> rfl

/-- Settles O52: every bit and operand field runs `writeBit`, which writes its operand alone. -/
theorem bitResetAndSet : Obligations.BitResetAndSet := by
  refine fun set b rest s => ⟨fun z r hz => ?register, ?memory⟩
  case register =>
    have hF := ofField_ne_F hz
    obtain ⟨i, hdec, hexec⟩ := writeBitReg_form set b (regField_of_ofField hz)
    refine ⟨i, _, hdec rest, hexec s, fun j hj => ?_,
      complete_setR8 (v := withBit set b.toNat (s.r8 r)) 8 hF (by decide) rfl |>.2⟩
    rw [(complete_setR8 (v := withBit set b.toNat (s.r8 r)) 8 hF (by decide) rfl).1]
    exact getLsbD_withBit set b.isLt _ hj
  case memory =>
    obtain ⟨i, hdec, hexec⟩ := writeBitAtHL_form set b
    exact ⟨i, _, withBit set b.toNat (s.readByte s.regs.hl), hdec rest, hexec s,
      fun j hj => getLsbD_withBit set b.isLt _ hj, complete_writesOnly_modify 16 (by decide) (.refl [] _)⟩

end Sys2Proof.Machine
end

section
/-! The stack and its instructions (00_scope.md R16; 41_load16.md R183 to R186; 43_alu16.md R260; 45_control.md R326
to R331): what a push or a pop does as a whole instruction, and the statements of these families. -/

namespace Sys2Proof

/-- The opcodes `11 qq 0101` have no immediate. -/
theorem formatOf_push : ∀ p : BitVec 2, formatOf (0b11#2 ++ p ++ 0b0101#4) = .P1 := by decide

/-- The opcodes `11 qq 0001` have no immediate. -/
theorem formatOf_pop : ∀ p : BitVec 2, formatOf (0b11#2 ++ p ++ 0b0001#4) = .P1 := by decide

/-- The opcodes `110 cc 100` have a 16-bit immediate. -/
theorem formatOf_conditionalCall : ∀ cc : BitVec 2, formatOf (0b110#3 ++ cc ++ 0b100#3) = .P3 := by decide

/-- The opcodes `110 cc 000` have no immediate. -/
theorem formatOf_conditionalRet : ∀ cc : BitVec 2, formatOf (0b110#3 ++ cc ++ 0b000#3) = .P1 := by decide

/-- The opcodes `11 ttt 111` have no immediate. -/
theorem formatOf_rst : ∀ y : BitVec 3, formatOf (0b11#2 ++ y ++ 0b111#3) = .P1 := by decide

theorem add_sext16 (sp : Word) (n : Byte) : sp + sext16 n = BitVec.ofInt 16 (sp.toNat + n.toInt) := by
  rw [BitVec.ofInt_add, ofInt_toNat]
  rfl

end Sys2Proof

namespace Sys2Proof.Machine

/-! ## The stack primitives on the register pairs -/

theorem r16_push16 (s : State) (v : Word) {q : Reg16} (hq : q ≠ .SP) : (s.push16 v).r16 q = s.r16 q :=
  (r16_setR16_other _ _ hq).trans (r16_setR16_other _ _ hq)

theorem r16_pop16 (s : State) {q : Reg16} (hq : q ≠ .SP) : s.pop16.2.r16 q = s.r16 q :=
  (r16_setR16_other _ _ hq).trans (r16_setR16_other _ _ hq)

theorem push16_pushes (s : State) (v : Word) : Pushes v s (s.push16 v) := by
  have accesses := push16_accesses s v
  rw [sub_one_sub_one] at accesses
  obtain ⟨high, low, bytes⟩ := accesses.writesTwo (sub_one_ne_sub_two _)
  refine ⟨sub_one_sub_one _, ⟨fun q hq _ => r16_push16 s v (List.mem_singleton.not.mp hq), rfl, rfl, rfl, rfl⟩, bytes,
    high, low, accesses⟩

/-- A state after the two reads of a pop, in which nothing but SP has changed. -/
def Pops (s t : State) : Prop :=
  t.regs.sp = s.regs.sp + 2 ∧ OnlyReg16 [.SP] s t ∧ KeepsBytesOutside [] s t ∧
    Accesses [.read s.regs.sp (s.readByte s.regs.sp),
      .read (s.regs.sp + 1) ((s.memRead s.regs.sp).2.readByte (s.regs.sp + 1))] s t

theorem pop16_pops (s : State) : Pops s s.pop16.2 :=
  ⟨add_one_add_one _, ⟨fun _ hq _ => r16_pop16 s (List.mem_singleton.not.mp hq), rfl, rfl, rfl, rfl⟩,
    (pop16_accesses s).keepsBytes [] (by simp), pop16_accesses s⟩

/-! ## Claims that say nothing of PC, TickCounter and the scratch -/

/-- `t` differs from `s` at most in PC, TickCounter and the scratch. -/
def SameButPc (s t : State) : Prop := KeepsReg16 [] s t ∧ t.bus = s.bus ∧ KeepsControl s t

theorem sameButPc_complete (len base : Nat) (h : State → State) (s : State) :
    SameButPc (h (s.fetched len)) (complete len base h s) :=
  ⟨fun _ _ hpc => r16_complete _ _ _ _ hpc, complete_bus .., complete_int .., complete_fault .., complete_params ..,
    complete_inputs ..⟩

theorem sameButPc_jump (s : State) (target : Word) (bonus : Nat) : SameButPc s ((s.jumpTo target).extra bonus) :=
  ⟨fun _ _ hpc => r16_setR16_other (rr := .PC) s target hpc, rfl, rfl, rfl, rfl, rfl⟩

theorem SameButPc.sp {s t : State} (h : SameButPc s t) : t.regs.sp = s.regs.sp := h.1 .SP (by simp) (by decide)

theorem SameButPc.onlyReg16 {rs : List Reg16} {s u t : State} (h : SameButPc u t) (ho : OnlyReg16 rs s u) :
    OnlyReg16 rs s t := by
  obtain ⟨regs, -, int, fault, params, inputs⟩ := h
  obtain ⟨regs', int', fault', params', inputs'⟩ := ho
  exact ⟨fun q hq hpc => (regs q List.not_mem_nil hpc).trans (regs' q hq hpc), int.trans int', fault.trans fault',
    params.trans params', inputs.trans inputs'⟩

theorem SameButPc.accesses {l : List BusAccess} {s u t : State} (h : SameButPc u t) (ha : Accesses l s u) :
    Accesses l s t := by
  unfold Accesses
  rw [h.2.1]
  exact ha

theorem SameButPc.pushes {v : Word} {s u t : State} (h : SameButPc u t) (hp : Pushes v s u) : Pushes v s t := by
  obtain ⟨sp, frame, -, -, -, accesses⟩ := hp
  obtain ⟨high, low, bytes⟩ := (h.accesses accesses).writesTwo (sub_one_ne_sub_two _)
  exact ⟨h.sp.trans sp, h.onlyReg16 frame, bytes, high, low, h.accesses accesses⟩

theorem SameButPc.pops {s u t : State} (h : SameButPc u t) (hp : Pops s u) : Pops s t := by
  obtain ⟨sp, frame, -, accesses⟩ := hp
  exact ⟨h.sp.trans sp, h.onlyReg16 frame, (h.accesses accesses).keepsBytes [] (by simp), h.accesses accesses⟩

/-! ## A push or a pop as a whole instruction -/

section

variable {len base bonus : Nat} {target v : Word} {h : State → State} {s : State}

/-- An instruction whose handler jumps, with `bonus` extra cycles, from a state with the scratch of the fetch. -/
theorem complete_transfers_of_jump {u : State} (hs : u.scratch = (s.fetched len).scratch) (ht : u.tick = s.tick)
    (hh : h (s.fetched len) = (u.jumpTo target).extra bonus) :
    Transfers target len (base + bonus) bonus s (complete len base h s) :=
  complete_transfers _ _ _ _ _ _ (by rw [hh, extra_scratch, jumpTo_scratch, hs]; rfl) (by rw [hh]; rfl)
    (by rw [hh]; exact ht)

/-- An instruction whose handler pushes `v` and then jumps. -/
theorem complete_pushJump (hh : h (s.fetched len) = (((s.fetched len).push16 v).jumpTo target).extra bonus) :
    Pushes v s (complete len base h s) ∧ Transfers target len (base + bonus) bonus s (complete len base h s) := by
  refine ⟨(sameButPc_complete len base h s).pushes ?_,
    complete_transfers_of_jump (u := (s.fetched len).push16 v) rfl rfl hh⟩
  rw [hh]
  exact (sameButPc_jump _ target bonus).pushes (push16_pushes (s.fetched len) v)

/-- An instruction whose handler pops and then jumps. -/
theorem complete_popJump (hh : h (s.fetched len) = ((s.fetched len).pop16.2.jumpTo target).extra bonus) :
    Pops s (complete len base h s) ∧ Transfers target len (base + bonus) bonus s (complete len base h s) := by
  refine ⟨(sameButPc_complete len base h s).pops ?_,
    complete_transfers_of_jump (u := (s.fetched len).pop16.2) rfl rfl hh⟩
  rw [hh]
  exact (sameButPc_jump _ target bonus).pops (pop16_pops (s.fetched len))

end

section

variable {cc : BitVec 2} {c : Cond} {len base bonus : Nat} {transfer : State → State} {s : State}

theorem whenTaken_of_holds (hc : CondField cc c) (h : conditionHolds cc s = true) :
    whenTaken c bonus transfer (s.fetched len) = (transfer (s.fetched len)).extra bonus :=
  if_pos ((cond_eq_conditionHolds hc (s.fetched len)).trans h)

/-- A conditional transfer that is not taken does nothing. -/
theorem complete_whenTaken_of_not_holds (hc : CondField cc c) (hl : len ≤ 3) (h : ¬ conditionHolds cc s = true) :
    OnlyReg8 [] s (complete len base (whenTaken c bonus transfer) s) ∧
      KeepsBytesOutside [] s (complete len base (whenTaken c bonus transfer) s) ∧
      Accesses [] s (complete len base (whenTaken c bonus transfer) s) ∧
      Advances len base s (complete len base (whenTaken c bonus transfer) s) := by
  have untaken : whenTaken c bonus transfer (s.fetched len) = s.fetched len :=
    if_neg (cond_eq_conditionHolds hc (s.fetched len) ▸ h)
  exact complete_writesOnly base hl (by rw [untaken]; exact .refl [] _)

end

/-! ## PUSH and POP -/

/-- The rows of the stack pair field's table (30_encoding.md R106). -/
inductive StackField : BitVec 2 → Reg16 → Prop
  | BC : StackField 0 .BC
  | DE : StackField 1 .DE
  | HL : StackField 2 .HL
  | AF : StackField 3 .AF

theorem stackField_stackPairOfField (p : BitVec 2) : StackField p (stackPairOfField p) := by
  fin_cases p <;> constructor

theorem push_form {p : BitVec 2} {qq : Reg16} (hp : StackField p qq) :
    ∃ i, (∀ rest, decode ((0b11#2 ++ p ++ 0b0101#4) :: rest) = .ok (i, rest)) ∧
      ∀ s, exec i s = done 1 16 (pushPair qq) s := by
  refine ⟨_, decode_of_P1 (formatOf_push p), fun s => ?_⟩
  cases hp <;> rfl

theorem pop_form {p : BitVec 2} {qq : Reg16} (hp : StackField p qq) :
    ∃ i, (∀ rest, decode ((0b11#2 ++ p ++ 0b0001#4) :: rest) = .ok (i, rest)) ∧
      ∀ s, exec i s = done 1 12 (popPair qq) s := by
  refine ⟨_, decode_of_P1 (formatOf_pop p), fun s => ?_⟩
  cases hp <;> rfl

/-- Settles O34: every pair field runs one push of the pair. -/
theorem pushPair_pushes : Obligations.PushPair := by
  rintro p v rest s rfl
  obtain ⟨i, hdec, hexec⟩ := push_form (stackField_stackPairOfField p)
  obtain ⟨sp, frame, bytes, high, low, accesses⟩ :=
    (sameButPc_complete 1 16 (pushPair (stackPairOfField p)) s).pushes (push16_pushes (s.fetched 1) _)
  exact ⟨i, _, hdec rest, hexec s, sp, high, low, bytes, frame, accesses,
    complete_advances _ _ _ _ (by decide) rfl rfl rfl⟩

/-- A pair written with two bytes reads them back, but for F's low nibble. -/
theorem r16_setR16_cat16 {p : BitVec 2} {qq : Reg16} (hp : StackField p qq) (hi lo : Byte) (s : State) :
    (s.setR16 qq (cat16 hi lo)).r16 qq = cat16 hi (if p = 3 then lo &&& 0xF0 else lo) := by
  cases hp
  case AF =>
    change cat16 (hi8 (cat16 hi lo)) (lo8 (cat16 hi lo) &&& 0xF0) = _
    rw [hi8_cat16, lo8_cat16]
    rfl
  case BC | DE | HL => exact r16_setR16_same _ _ _ (by decide)

theorem StackField.ne_SP {p : BitVec 2} {qq : Reg16} (h : StackField p qq) : qq ≠ .SP := by cases h <;> decide

theorem StackField.ne_PC {p : BitVec 2} {qq : Reg16} (h : StackField p qq) : qq ≠ .PC := by cases h <;> decide

/-- Settles O35: every pair field runs one pop, and then a write of the pair. -/
theorem popPair_pops : Obligations.PopPair := by
  rintro p lo hi rest s rfl rfl
  have hp := stackField_stackPairOfField p
  obtain ⟨i, hdec, hexec⟩ := pop_form hp
  obtain ⟨sp, ⟨regs, -⟩, -⟩ := pop16_pops (s.fetched 1)
  have accesses := complete_accesses _ 1 12 (popPair (stackPairOfField p)) s
    (by
      unfold Accesses
      rw [popPair, setR16_bus]
      exact pop16_accesses s)
  refine ⟨i, _, hdec rest, hexec s, ?pair, ?sp, ?frame, accesses.keepsBytes [] (by simp), accesses, ?advance⟩
  case pair => exact (r16_complete _ _ _ _ hp.ne_PC).trans (r16_setR16_cat16 hp _ _ _)
  case sp => rw [complete_sp, popPair, setR16_sp, if_neg hp.ne_SP, sp]; rfl
  case frame =>
    apply complete_onlyReg16
    case hr =>
      intro q hq hpc
      rw [List.mem_cons, not_or] at hq
      exact (r16_setR16_other _ _ hq.1).trans (regs q hq.2 hpc)
    all_goals simp [popPair]
  case advance => apply complete_advances <;> simp [popPair, hp.ne_PC]

/-! ## CALL, RET and RST -/

theorem conditionalCall_form {cc : BitVec 2} {c : Cond} (hc : CondField cc c) (nn : Word) :
    ∃ i, (∀ rest, decode ((0b110#3 ++ cc ++ 0b100#3) :: lo8 nn :: hi8 nn :: rest) = .ok (i, rest)) ∧
      ∀ s, exec i s = done 3 12 (whenTaken c 12 (call nn)) s := by
  refine ⟨_, decode_of_P3 (formatOf_conditionalCall cc) nn, fun s => ?_⟩
  cases hc <;> rfl

theorem conditionalRet_form {cc : BitVec 2} {c : Cond} (hc : CondField cc c) :
    ∃ i, (∀ rest, decode ((0b110#3 ++ cc ++ 0b000#3) :: rest) = .ok (i, rest)) ∧
      ∀ s, exec i s = done 1 8 (whenTaken c 12 returnSub) s := by
  refine ⟨_, decode_of_P1 (formatOf_conditionalRet cc), fun s => ?_⟩
  cases hc <;> rfl

theorem rst_form (y : BitVec 3) :
    ∃ i target, (∀ rest, decode ((0b11#2 ++ y ++ 0b111#3) :: rest) = .ok (i, rest)) ∧
      (∀ s, exec i s = done 1 16 (restart target) s) ∧ zext16 target = BitVec.ofNat 16 (8 * y.toNat) := by
  refine ⟨_, BitVec.ofNat 8 (8 * y.toNat), decode_of_P1 (formatOf_rst y), fun s => ?_, ?_⟩
  · fin_cases y <;> rfl
  · fin_cases y <;> rfl

/-- Settles O56: CALL pushes PC + 3 and jumps, and the four condition fields do so when they hold. -/
theorem calls : Obligations.Calls := by
  refine ⟨fun nn rest s => ?always, fun cc nn rest s => ?conditional⟩
  case always => exact ⟨.calla16 nn, _, decode_of_P3 (by decide) nn rest, rfl, complete_pushJump (bonus := 0) rfl⟩
  case conditional =>
    have hc := condField_ofField cc
    obtain ⟨i, hdec, hexec⟩ := conditionalCall_form hc nn
    refine ⟨i, _, hdec rest, hexec s, ?_⟩
    split
    case isTrue holds => exact complete_pushJump (target := nn) (whenTaken_of_holds (transfer := call nn) hc holds)
    case isFalse fails => exact complete_whenTaken_of_not_holds hc (by decide) fails

/-- Settles O57: RET pops PC, the four condition fields do so when they hold, and RETI sets IME besides. -/
theorem returns : Obligations.Returns := by
  rintro lo hi rest s rfl rfl
  obtain ⟨⟨sp, frame, bytes, accesses⟩, transfer⟩ := complete_popJump (s := s) (len := 1) (base := 16)
    (target := (s.fetched 1).pop16.1) (bonus := 0) (h := returnSub) rfl
  refine ⟨?ret, fun cc => ?conditional, ?reti⟩
  case ret => exact ⟨.ret, _, decode_of_P1 (by decide) rest, rfl, sp, frame, bytes, accesses, transfer⟩
  case conditional =>
    have hc := condField_ofField cc
    obtain ⟨i, hdec, hexec⟩ := conditionalRet_form hc
    refine ⟨i, _, hdec rest, hexec s, ?_⟩
    split
    case isTrue holds =>
      obtain ⟨⟨sp, frame, bytes, accesses⟩, transfer⟩ :=
        complete_popJump (base := 8) (target := (s.fetched 1).pop16.1)
          (whenTaken_of_holds (bonus := 12) (transfer := returnSub) hc holds)
      exact ⟨sp, frame, bytes, accesses, transfer⟩
    case isFalse fails => exact complete_whenTaken_of_not_holds hc (by decide) fails
  case reti =>
    obtain ⟨regs, int, machine⟩ := frame
    exact ⟨.reti, { complete 1 16 returnSub s with int.ime := true }, decode_of_P1 (by decide) rest, rfl, sp, regs,
      machine, congrArg ({ · with ime := true }) int, bytes, accesses, transfer⟩

/-- Settles O58: every restart field pushes PC + 1 and jumps to 8 times the field. -/
theorem restarts : Obligations.Restarts := by
  intro y rest s
  obtain ⟨i, target, hdec, hexec, htarget⟩ := rst_form y
  refine ⟨i, _, hdec rest, hexec s, ?_⟩
  rw [← htarget]
  exact complete_pushJump (bonus := 0) rfl

/-! ## The stack pointer plus an offset -/

/-- The flags of `spAdd` are the carries of the low byte's sum, as numbers. -/
theorem spAdd_eq (sp : Word) (n : Byte) :
    spAdd sp n = (BitVec.ofInt 16 (sp.toNat + n.toInt), decide (sp.toNat % 16 + n.toNat % 16 > 15),
      decide (sp.toNat % 256 + n.toNat > 255)) := by
  have low4 : (sp &&& 0x000F).toNat = sp.toNat % 16 := Nat.and_two_pow_sub_one_eq_mod sp.toNat 4
  have low8 : (sp &&& 0x00FF).toNat = sp.toNat % 256 := Nat.and_two_pow_sub_one_eq_mod sp.toNat 8
  rw [spAdd, add_sext16, low4, low8]
  exact congrArg _ (by rw [show (n &&& 0x0F).toNat = n.toNat % 16 from lowNibble_eq_mod n])

/-- Settles O33: both add with `spAdd`, into SP or HL, and write its flags. -/
theorem stackPointerPlusOffset : Obligations.StackPointerPlusOffset := by
  refine fun n rest s => ⟨?addSP, ?ldHL⟩
  case addSP =>
    obtain ⟨accesses, bytes⟩ := complete_noAccess 2 16 (addSP n) s rfl
    refine ⟨.addSPe8 n, _, decode_of_P2 (by decide) n rest, rfl, ?sp, ?flags, ?frame, ?control, bytes, accesses,
      ?advance⟩
    case sp => exact (complete_sp ..).trans (congrArg Prod.fst (spAdd_eq s.regs.sp n))
    case flags =>
      rw [r8_complete, addSP, F_setFlags, spAdd_eq]
      rfl
    case frame =>
      intro q hq
      rw [r8_complete, addSP, r8_setFlags _ _ _ _ _ _ (List.mem_singleton.not.mp hq)]
      rfl
    case control => exact ⟨complete_int .., complete_fault .., complete_params .., complete_inputs ..⟩
    case advance => exact complete_advances _ _ _ _ (by decide) rfl rfl rfl
  case ldHL =>
    obtain ⟨frame, bytes, accesses, advance⟩ := complete_writesOnly (s := s) (rs := [.F, .H, .L]) (len := 2)
      (h := loadHLSP n) 12 (by decide) ((setR16_writesOnly (rr := .HL) (by decide) (by decide) (by decide) _ _).trans
        (setFlags_writesOnly (by decide) _ _ _ _ _))
    refine ⟨.ldHLSPe8 n, _, decode_of_P2 (by decide) n rest, rfl, ?hl, ?flags, frame, bytes, accesses, advance⟩
    case hl => exact (r16_complete (q := .HL) _ _ _ _ (by decide)).trans (congrArg Prod.fst (spAdd_eq s.regs.sp n))
    case flags =>
      rw [r8_complete, loadHLSP, F_setFlags, spAdd_eq]
      rfl

end Sys2Proof.Machine
end

section
/-! Decimal arithmetic (95_test_vectors.md S9: 42_alu8.md R211 to R213, R248) and the system instructions
(46_system.md R360 to R364). -/

namespace Sys2Proof.Machine

/-! ## Decimal bytes -/

theorem exists_digits {x : Nat} (hx : x < 100) : ∃ p q, p < 10 ∧ q < 10 ∧ x = 10 * p + q :=
  ⟨x / 10, x % 10, by omega, by omega, by omega⟩

theorem bcd_toNat {p q : Nat} (hp : p < 10) (hq : q < 10) : (bcd (10 * p + q)).toNat = 16 * p + q := by
  rw [bcd, BitVec.toNat_ofNat]
  omega

theorem bcd_beq_zero {n : Nat} (hn : n < 100) : (bcd n == 0) = decide (n = 0) := by
  obtain ⟨p, q, hp, hq, rfl⟩ := exists_digits hn
  rw [Bool.beq_eq_decide_eq, decide_eq_decide, ← BitVec.toNat_inj, bcd_toNat hp hq]
  change _ = 0 ↔ _
  omega

/-- A digit of a sum and its carry. -/
theorem exists_carry {n : Nat} (hn : n < 20) : ∃ (c : Bool) (d : Nat), d < 10 ∧ n = 10 * c.toNat + d := by
  by_cases h : n < 10
  · exact ⟨false, n, h, (zero_add n).symm⟩
  · exact ⟨true, n - 10, by omega, by rw [Bool.toNat_true]; omega⟩

/-- A digit of a difference and its borrow. -/
theorem exists_borrow {a b : Nat} (ha : a < 10) (hb : b ≤ 10) :
    ∃ (c : Bool) (d : Nat), d < 10 ∧ a + 10 * c.toNat = b + d := by
  by_cases h : b ≤ a
  · exact ⟨false, a - b, by omega, by rw [Bool.toNat_false]; omega⟩
  · exact ⟨true, a + 10 - b, by omega, by rw [Bool.toNat_true]; omega⟩

theorem eq_decide_of_toNat {b : Bool} {p : Prop} [Decidable p] (h : b.toNat = 1 ↔ p) : b = decide p :=
  Bool.eq_iff_iff.mpr (Bool.toNat_eq_one.symm.trans (h.trans decide_eq_true_iff.symm))

/-- DAA corrects the binary sum of two decimal bytes and a carry where the decimal addition carries: with `low` and
`high` the carries of its two digits `m` and `n`, the binary sum is 160 * high + 16 * n + m - 6 * low. -/
theorem daaAdjust_sum {x y : Nat} (hx : x < 100) (hy : y < 100) (c : Bool) :
    daaAdjust (BitVec.ofNat 8 ((bcd x).toNat + (bcd y).toNat + c.toNat)) false
        (decide ((bcd x).toNat % 16 + (bcd y).toNat % 16 + c.toNat > 15))
        (decide ((bcd x).toNat + (bcd y).toNat + c.toNat > 255)) =
      (bcd ((x + y + c.toNat) % 100), decide (x + y + c.toNat ≥ 100)) := by
  obtain ⟨p, q, hp, hq, rfl⟩ := exists_digits hx
  obtain ⟨r, t, hr, ht, rfl⟩ := exists_digits hy
  rw [bcd_toNat hp hq, bcd_toNat hr ht]
  have hc := c.toNat_le
  generalize c.toNat = k at hc ⊢
  obtain ⟨low, m, hm, lowSum⟩ := exists_carry (n := q + t + k) (by omega)
  have hlow := low.toNat_le
  obtain ⟨high, n, hn, highSum⟩ := exists_carry (n := p + r + low.toNat) (by omega)
  have hhigh := high.toNat_le
  have binary : 16 * p + q + (16 * r + t) + k + 6 * low.toNat = 160 * high.toNat + 16 * n + m := by omega
  have decimal : 10 * p + q + (10 * r + t) + k = 100 * high.toNat + (10 * n + m) := by omega
  have lowDigits : (16 * p + q) % 16 + (16 * r + t) % 16 + k = 10 * low.toNat + m := by omega
  rw [decimal, lowDigits]
  generalize 16 * p + q + (16 * r + t) + k = sum at binary ⊢
  rw [daaAdjust_addition _ _ _ high low ?high ?low]
  case high =>
    rw [BitVec.toNat_ofNat, ← Bool.decide_or]
    exact eq_decide_of_toNat (by omega)
  case low =>
    rw [BitVec.toNat_ofNat, ← Bool.decide_or]
    exact eq_decide_of_toNat (by omega)
  refine congrArg₂ Prod.mk (BitVec.eq_of_toNat_eq ?value) (eq_decide_of_toNat (by omega))
  case value =>
    rw [Nat.mul_add_mod, Nat.mod_eq_of_lt (by omega : 10 * n + m < 100), bcd_toNat hn hm, BitVec.toNat_ofNat,
      BitVec.toNat_ofNat]
    omega

/-- DAA corrects the binary difference of two decimal bytes where the decimal subtraction borrows: with `low` and `high`
the borrows of its two digits `m` and `n`, the binary difference is 16 * n + m + 6 * low - 160 * high. -/
theorem daaAdjust_difference {x y : Nat} (hx : x < 100) (hy : y < 100) :
    daaAdjust (BitVec.ofInt 8 ((bcd x).toNat - (bcd y).toNat)) true (decide ((bcd x).toNat % 16 < (bcd y).toNat % 16))
        (decide ((bcd y).toNat > (bcd x).toNat)) = (bcd ((x + 100 - y) % 100), decide (x < y)) := by
  obtain ⟨p, q, hp, hq, rfl⟩ := exists_digits hx
  obtain ⟨r, t, hr, ht, rfl⟩ := exists_digits hy
  rw [bcd_toNat hp hq, bcd_toNat hr ht]
  obtain ⟨low, m, hm, lowDiff⟩ := exists_borrow hq ht.le
  have hlow := low.toNat_le
  obtain ⟨high, n, hn, highDiff⟩ := exists_borrow (a := p) (b := r + low.toNat) hp (by omega)
  have hhigh := high.toNat_le
  have decimal : (10 * p + q + 100 - (10 * r + t)) % 100 = 10 * n + m := by omega
  have lowBorrow : low = decide ((16 * p + q) % 16 < (16 * r + t) % 16) := eq_decide_of_toNat (by omega)
  have binaryBorrow : high = decide (16 * r + t > 16 * p + q) := eq_decide_of_toNat (by omega)
  have decimalBorrow : high = decide (10 * p + q < 10 * r + t) := eq_decide_of_toNat (by omega)
  rw [← lowBorrow, ← binaryBorrow, ← decimalBorrow, decimal, daaAdjust_subtraction]
  refine congrArg (·, high) (BitVec.eq_of_toNat_eq ?_)
  rw [bcd_toNat hn hm, BitVec.toNat_ofInt, BitVec.toNat_ofInt]
  omega

/-! ## DAA after an ALU operation -/

/-- A and the flags C and Z as DAA leaves them when it gives the byte `r` and the carry `c`. -/
def DecimalOutcome (r : Byte) (c : Bool) (u : State) : Prop := u.r8 .A = r ∧ u.flag .C = c ∧ u.flag .Z = (r == 0)

/-- DAA as a whole instruction, from a state with these values in A and F. -/
theorem complete_decimalAdjust {a : Byte} {z n h c : Bool} {t : State} (hA : t.r8 .A = a)
    (hF : t.r8 .F = flagByte z n h c) :
    DecimalOutcome (daaAdjust a n h c).1 (daaAdjust a n h c).2 (complete 1 4 decimalAdjust t) := by
  have hN : t.flag .N = n := by rw [State.flag, hF, flag_of_F]
  have hH : t.flag .H = h := by rw [State.flag, hF, flag_of_F]
  have hC : t.flag .C = c := by rw [State.flag, hF, flag_of_F]
  subst hA hN hH hC
  have value : (complete 1 4 decimalAdjust t).r8 .A = _ := (r8_complete ..).trans (A_decimalAdjust _)
  have flags : (complete 1 4 decimalAdjust t).r8 .F = _ := (r8_complete ..).trans (F_decimalAdjust _)
  refine ⟨value, ?_, ?_⟩
  · rw [State.flag, flags, flag_of_F]
    rfl
  · rw [State.flag, flags, flag_of_F, A_decimalAdjust]
    rfl

/-- ADD is ADC with no carry in. -/
theorem aluAdd_eq_aluAdc (a b : Byte) : aluAdd a b = aluAdc a b false := by
  simp [aluAdd, aluAdc, boolToByte]

/-- DAA after an operation that leaves A and F as ADC does. -/
theorem decimalSum {x y : Nat} (hx : x < 100) (hy : y < 100) {cin : Bool} {t : State}
    (hA : t.r8 .A = (aluAdc (bcd x) (bcd y) cin).res) (hF : t.r8 .F = (aluAdc (bcd x) (bcd y) cin).toF) :
    DecimalOutcome (bcd ((x + y + cin.toNat) % 100)) (decide (x + y + cin.toNat ≥ 100))
      (complete 1 4 decimalAdjust t) := by
  have outcome := complete_decimalAdjust (hA.trans (aluAdc_res ..)) (hF.trans (aluAdc_toF ..))
  rwa [daaAdjust_sum hx hy] at outcome

/-- DAA after an operation that leaves A and F as SUB does. -/
theorem decimalDifference {x y : Nat} (hx : x < 100) (hy : y < 100) {t : State}
    (hA : t.r8 .A = (aluSub (bcd x) (bcd y)).res) (hF : t.r8 .F = (aluSub (bcd x) (bcd y)).toF) :
    DecimalOutcome (bcd ((x + 100 - y) % 100)) (decide (x < y)) (complete 1 4 decimalAdjust t) := by
  have outcome := complete_decimalAdjust (hA.trans (aluSub_res ..)) (hF.trans (aluSub_toF ..))
  rwa [daaAdjust_difference hx hy] at outcome

/-- An ALU instruction with register B, as a whole instruction from a state with these decimal bytes in A and B. -/
theorem aluB_effect (op : AluOp) {s : State} {a b : Byte} (hA : s.r8 .A = a) (hB : s.r8 .B = b) :
    (complete 1 4 (aluReg op .B) s).r8 .A = op.newA a b (s.flag .C) ∧
      (complete 1 4 (aluReg op .B) s).r8 .F = (op.eval a b (s.flag .C)).toF := by
  subst hA hB
  exact (aluWrite_effect op (s.r8 .B) (s.fetched 1)).complete

/-- Settles O43: DAA makes of the binary sum or difference the decimal one, digit by digit. -/
theorem decimalArithmeticIsCorrect : Obligations.DecimalArithmeticIsCorrect := by
  intro x y s hx hy hA hB
  have zero (n : Nat) : (bcd (n % 100) == 0) = decide (n % 100 = 0) := bcd_beq_zero (Nat.mod_lt _ (by decide))
  refine ⟨?add, ?adc, ?sub⟩
  case add =>
    obtain ⟨hA', hF'⟩ := aluB_effect .add hA hB
    obtain ⟨value, carry, isZero⟩ := decimalSum hx hy (hA'.trans (congrArg AluResult.res (aluAdd_eq_aluAdc ..)))
      (hF'.trans (congrArg AluResult.toF (aluAdd_eq_aluAdc ..)))
    exact ⟨_, _, rfl, rfl, value, carry, isZero.trans (zero _)⟩
  case adc =>
    obtain ⟨hA', hF'⟩ := aluB_effect .adc hA hB
    obtain ⟨value, carry, isZero⟩ := decimalSum hx hy hA' hF'
    exact ⟨_, _, rfl, rfl, value, carry, isZero.trans (zero _)⟩
  case sub =>
    obtain ⟨hA', hF'⟩ := aluB_effect .sub hA hB
    obtain ⟨value, carry, isZero⟩ := decimalDifference hx hy hA' hF'
    refine ⟨_, _, rfl, rfl, value, carry, isZero.trans ((zero _).trans (decide_eq_decide.mpr ?_))⟩
    omega

/-! ## NOP, HALT, STOP, DI and EI -/

/-- An instruction whose handler, once `len` bytes count as consumed, changes no more than the four booleans. -/
theorem complete_setInt {opcodeLen len base : Nat} {after : IntState} {h : State → State} {s : State} (hl : len ≤ 3)
    (hh : h (s.fetched opcodeLen) = { s.fetched len with int := after }) :
    (complete opcodeLen base h s).int = after ∧ KeepsReg8 [] s (complete opcodeLen base h s) ∧
      (complete opcodeLen base h s).regs.sp = s.regs.sp ∧ KeepsMachine s (complete opcodeLen base h s) ∧
      KeepsBytesOutside [] s (complete opcodeLen base h s) ∧ Accesses [] s (complete opcodeLen base h s) ∧
      Advances len base s (complete opcodeLen base h s) := by
  have same : complete opcodeLen base h s = complete len base (fun u => { u with int := after }) s := by
    simp only [complete, hh]
  rw [same]
  obtain ⟨accesses, bytes⟩ := complete_noAccess len base (fun u => { u with int := after }) s rfl
  exact ⟨complete_int .., fun _ _ => r8_complete .., complete_sp .., ⟨complete_fault .., complete_params ..,
    complete_inputs ..⟩, bytes, accesses, complete_advances _ _ _ _ hl rfl rfl rfl⟩

/-- Settles O59: each of the four writes at most its one boolean. -/
theorem systemInstructions : Obligations.SystemInstructions := by
  intro op after rest s hop
  simp only [List.mem_cons, List.not_mem_nil, or_false, Prod.mk.injEq] at hop
  rcases hop with ⟨rfl, rfl⟩ | ⟨rfl, rfl⟩ | ⟨rfl, rfl⟩ | ⟨rfl, rfl⟩
  · exact ⟨.nop, _, decode_of_P1 (by decide) rest, rfl, complete_setInt (len := 1) (by decide) rfl⟩
  · exact ⟨.halt, _, decode_of_P1 (by decide) rest, rfl, complete_setInt (len := 1) (by decide) rfl⟩
  · exact ⟨.di, _, decode_of_P1 (by decide) rest, rfl, complete_setInt (len := 1) (by decide) rfl⟩
  · exact ⟨.ei, _, decode_of_P1 (by decide) rest, rfl, complete_setInt (len := 1) (by decide) rfl⟩

theorem stopLength_eq (p : Params) : stopLength p = if p.stopBytes = .one then 1 else 2 := by
  unfold stopLength
  cases p.stopBytes <;> rfl

/-- Settles O60: STOP sets Stopped and counts STOP_BYTES bytes as consumed, whatever the fetch consumed. -/
theorem stopInstruction : Obligations.StopInstruction := by
  rintro len rest s rfl
  rw [← stopLength_eq]
  have short : stopLength s.params ≤ 3 := by
    rw [stopLength_eq]
    split <;> decide
  exact ⟨.stop, _, rfl, rfl, complete_setInt short rfl⟩

end Sys2Proof.Machine
end
